-- ==== Sys2Proof/Word.lean ====
section
/-! DEFINITION. The value types of the block: a byte is 8 bits, every bus value is an unsigned word of
32 bits, an operation word has 68 bits, a sector has 512 bytes (spec/00_scope.md R7, R9;
spec/30_encoding.md R90). -/

namespace Sys2Proof

/-- A byte (R9). -/
abbrev Byte := BitVec 8

/-- A word: every bus address, written value, read value and scan code (R9, D4, D8). -/
abbrev Word := BitVec 32

/-- The operation word `W` (R90). -/
abbrev OpWord := BitVec 68

/-- One sector, and the sector buffer: `SECTOR_SIZE` = 512 bytes (R7, R35). -/
structure Sector where
  bytes : List Byte
  size : bytes.length = 512
  deriving DecidableEq, Repr

/-- The sector whose byte `k` is `f k`. Irreducible, so that elaboration never lays its 512 bytes out. -/
@[irreducible] def sectorOf (f : Nat → Byte) : Sector :=
  ⟨(List.range 512).map f, by simp⟩

/-- A Boolean at bit `n` of a word, every other bit 0. -/
def bitAt (n : Nat) (b : Bool) : Word := BitVec.setWidth 32 (BitVec.ofBool b) <<< n

end Sys2Proof
end

