-- ==== Sys2Proof/Config.lean ====
section
/-! DEFINITION. What an implementation fixes (spec/00_scope.md R7, R8), and the free values: constants
without a body, one for each thing the spec leaves without a value (spec/93_implementation_defined.md
U1 to U4). -/

namespace Sys2Proof.Config

/-! ## Values the source fixes (R7) -/

/-- `SECTOR_SIZE`: bytes in a sector (R7). -/
abbrev sectorSize : Nat := 512

/-- `WORD_BYTES`: bytes in a bus word (R7). -/
abbrev wordBytes : Nat := 4

/-- `SENTINEL`: what a read returns that has nothing to return (R7). -/
def sentinel : Word := 0xFFFFFFFF#32

/-! ## Parameters (R8) -/

/-- `BYTE_ORDER` of `BLK_DATA` words (R8, D10). -/
inductive ByteOrder where
  | little
  | big
  deriving DecidableEq, Repr

/-- The parameters of R8. `ADDR_BITS`, `DATA_BITS` and `SCAN_CODE_BITS` are the width of `Word`. -/
structure Params where
  /-- `ADDR_CONSOLE_OUT`. -/
  addrConsoleOut : Word
  /-- `ADDR_BLK_STATUS`. -/
  addrBlkStatus : Word
  /-- `ADDR_BLK_COMMAND`. -/
  addrBlkCommand : Word
  /-- `ADDR_BLK_SECTOR`. -/
  addrBlkSector : Word
  /-- `ADDR_BLK_DATA`. -/
  addrBlkData : Word
  /-- `ADDR_KEY_STATUS`. -/
  addrKeyStatus : Word
  /-- `ADDR_KEY_DATA`. -/
  addrKeyData : Word
  /-- `CMD_READ_SECTOR`. -/
  cmdReadSector : Word
  /-- `CMD_WRITE_SECTOR`. -/
  cmdWriteSector : Word
  /-- `CMD_ACK_INTERRUPT`. -/
  cmdAckInterrupt : Word
  /-- `STATUS_BUSY_BIT`. -/
  statusBusyBit : Nat
  /-- `STATUS_ERROR_BIT`. -/
  statusErrorBit : Nat
  /-- `STATUS_IRQ_BIT`. -/
  statusIrqBit : Nat
  /-- `KEY_STATUS_AVAIL_BIT`. -/
  keyStatusAvailBit : Nat
  /-- `KEY_QUEUE_CAPACITY`, called N. -/
  keyQueueCapacity : Nat
  /-- `BYTE_ORDER`. -/
  byteOrder : ByteOrder
  /-- `PENDING_MAX`. -/
  pendingMax : Nat
  /-- `AUTO_EXTEND`. -/
  autoExtend : Bool
  deriving DecidableEq, Repr

/-- The seven register addresses, in the order of R70's table. -/
def Params.addresses (P : Params) : List Word :=
  [P.addrConsoleOut, P.addrBlkStatus, P.addrBlkCommand, P.addrBlkSector, P.addrBlkData,
    P.addrKeyStatus, P.addrKeyData]

/-- The three command codes (R96). -/
def Params.commands (P : Params) : List Word :=
  [P.cmdReadSector, P.cmdWriteSector, P.cmdAckInterrupt]

/-- What the spec asks of the parameters: the seven addresses distinct (R70), the three codes distinct
(D5), the queue able to hold an entry (R174: any N >= 1). -/
abbrev Params.Valid (P : Params) : Prop :=
  P.addresses.Nodup ∧ P.commands.Nodup ∧ 1 ≤ P.keyQueueCapacity

/-- `IO_BASE` (R8, D2). -/
def ioBase : Word := 0xFFFF0000#32

/-- The values the spec takes (R8, R70, R96). UNVERIFIED for the original hardware: log 11, 12, 13, 14. -/
def params : Params where
  addrConsoleOut := 0xFFFF0004#32
  addrBlkStatus := 0xFFFF0010#32
  addrBlkCommand := 0xFFFF0014#32
  addrBlkSector := 0xFFFF0018#32
  addrBlkData := 0xFFFF001C#32
  addrKeyStatus := 0xFFFF0020#32
  addrKeyData := 0xFFFF0024#32
  cmdReadSector := 1#32
  cmdWriteSector := 2#32
  cmdAckInterrupt := 3#32
  statusBusyBit := 0
  statusErrorBit := 1
  statusIrqBit := 2
  keyStatusAvailBit := 0
  keyQueueCapacity := 16
  byteOrder := .little
  pendingMax := 2 ^ 32 - 1
  autoExtend := false

/-! ## Free values: no body, so nothing can be proved of them. The first argument is the draw. -/

/-- Whether the medium environment lets an open or a sector operation succeed, when it has laid out no
answer (R126, U4; log 4). -/
opaque freeAnswer : Nat → Bool

/-- An unspecified byte: of the sector buffer (U1, U2; log 5) or of the medium (U3; log 6), by offset. -/
opaque freeByte : Nat → Nat → Byte

/-- Where in its range the medium's length falls after a failed write (U3; log 6). -/
opaque freeLength : Nat → Nat

/-- An unspecified sector (U1, U2). -/
def freeSector (draw : Nat) : Sector := sectorOf (freeByte draw)

end Sys2Proof.Config
end

