-- ==== Sys2Proof/Syntax.lean ====
section
/-! DEFINITION. The operations of the block: one constructor per row of spec/opcode_table.json, in its
order (spec/30_encoding.md R100). A field that is not meaningful (R90) is no argument. -/

namespace Sys2Proof

/-- The 23 operations of R100. -/
inductive Instr where
  /-- Row 1, `RD CONSOLE_OUT` (R181). -/
  | rdConsoleOut
  /-- Row 2, `RD BLK_STATUS` (R140). -/
  | rdBlkStatus
  /-- Row 3, `RD BLK_COMMAND` (R194). -/
  | rdBlkCommand
  /-- Row 4, `RD BLK_SECTOR` (R141). -/
  | rdBlkSector
  /-- Row 5, `RD BLK_DATA` (R150). -/
  | rdBlkData
  /-- Row 6, `RD KEY_STATUS` (R172). -/
  | rdKeyStatus
  /-- Row 7, `RD KEY_DATA` (R171). -/
  | rdKeyData
  /-- Row 8, `WR CONSOLE_OUT` (R180). -/
  | wrConsoleOut (wdata : Word)
  /-- Row 9, `WR BLK_STATUS` (R195). -/
  | wrBlkStatus (wdata : Word)
  /-- Row 10, `WR BLK_COMMAND, READ_SECTOR` (R144, R147). -/
  | wrBlkCommandReadSector
  /-- Row 11, `WR BLK_COMMAND, WRITE_SECTOR` (R145, R147). -/
  | wrBlkCommandWriteSector
  /-- Row 12, `WR BLK_COMMAND, ACK_INTERRUPT` (R146). -/
  | wrBlkCommandAckInterrupt
  /-- Row 13, `WR BLK_COMMAND` with any other code (R149). -/
  | wrBlkCommandMalformed (wdata : Word)
  /-- Row 14, `WR BLK_SECTOR` (R142). -/
  | wrBlkSector (wdata : Word)
  /-- Row 15, `WR BLK_DATA` (R151). -/
  | wrBlkData (wdata : Word)
  /-- Row 16, `WR KEY_STATUS` (R195). -/
  | wrKeyStatus (wdata : Word)
  /-- Row 17, `WR KEY_DATA` (R195). -/
  | wrKeyData (wdata : Word)
  /-- Row 18, a bus read of any other address (R193). -/
  | rdUnmapped (addr : Word)
  /-- Row 19, a bus write of any other address (R192). -/
  | wrUnmapped (addr wdata : Word)
  /-- Row 20, `INJECT` (R170). -/
  | inject (code : Word)
  /-- Row 21, `ATTACH` (R120). -/
  | attach
  /-- Row 22, `DETACH` (R122). -/
  | detach
  /-- Row 23, `RESET` (R250). -/
  | reset
  deriving DecidableEq, Repr

end Sys2Proof
end

