-- ==== Sys2Proof/WellFormed.lean ====
section
/-! DEFINITION. Which operands make an operation: the catch-all rows 13, 18 and 19 stand for every OTHER
code and every OTHER address (spec/30_encoding.md R101). -/

namespace Sys2Proof

/-- The address is one of the seven registers (spec/20_memory.md R68: exact match of all 32 bits). -/
abbrev Config.Params.Mapped (P : Config.Params) (addr : Word) : Prop := addr ∈ P.addresses

/-- The value is one of the three command codes (R96: the whole word is compared). -/
abbrev Config.Params.IsCommand (P : Config.Params) (wdata : Word) : Prop := wdata ∈ P.commands

/-- Well-formed operations: those some operation word spells (R101). -/
abbrev Instr.WellFormed (P : Config.Params) (i : Instr) : Prop :=
  match i with
  | .rdConsoleOut => True
  | .rdBlkStatus => True
  | .rdBlkCommand => True
  | .rdBlkSector => True
  | .rdBlkData => True
  | .rdKeyStatus => True
  | .rdKeyData => True
  | .wrConsoleOut _ => True
  | .wrBlkStatus _ => True
  | .wrBlkCommandReadSector => True
  | .wrBlkCommandWriteSector => True
  | .wrBlkCommandAckInterrupt => True
  | .wrBlkCommandMalformed wdata => ¬ P.IsCommand wdata
  | .wrBlkSector _ => True
  | .wrBlkData _ => True
  | .wrKeyStatus _ => True
  | .wrKeyData _ => True
  | .rdUnmapped addr => ¬ P.Mapped addr
  | .wrUnmapped addr _ => ¬ P.Mapped addr
  | .inject _ => True
  | .attach => True
  | .detach => True
  | .reset => True

end Sys2Proof
end

