-- ==== Sys2Proof/Decode.lean ====
section
/-! DEFINITION. The decoder of operation words, the encoder, and the operation map as a table
(spec/30_encoding.md R90 to R101; the dispatch of spec/44_decoder.md R190, R191 and
spec/41_block_device.md R143). The decoder and the encoder take the parameters as an argument; `decode`
and `encode` are theirs at the values the spec takes. -/

namespace Sys2Proof

/-- Why a word is no operation: its kind is 5, 6 or 7 (R91, U5). -/
inductive DecodeError where
  | noOperation (kind : BitVec 3)
  deriving DecidableEq, Repr

/-! ## Fields of the operation word (R90) -/

/-- `kind`, bits 67:65. -/
def opKind (w : OpWord) : BitVec 3 := w.extractLsb' 65 3

/-- `we`, bit 64. -/
def opWe (w : OpWord) : Bool := w.getLsbD 64

/-- `addr`, bits 63:32. -/
def opAddr (w : OpWord) : Word := w.extractLsb' 32 32

/-- `data`, bits 31:0. -/
def opData (w : OpWord) : Word := w.extractLsb' 0 32

/-- The word with these fields. -/
def packOp (kind : BitVec 3) (we : Bool) (addr data : Word) : OpWord :=
  kind ++ (BitVec.ofBool we ++ (addr ++ data))

/-! ## Dispatch -/

/-- Which register a bus read reaches (R191). -/
def selectRead (P : Config.Params) (addr : Word) : Instr :=
  if addr = P.addrConsoleOut then .rdConsoleOut
  else if addr = P.addrBlkStatus then .rdBlkStatus
  else if addr = P.addrBlkCommand then .rdBlkCommand
  else if addr = P.addrBlkSector then .rdBlkSector
  else if addr = P.addrBlkData then .rdBlkData
  else if addr = P.addrKeyStatus then .rdKeyStatus
  else if addr = P.addrKeyData then .rdKeyData
  else .rdUnmapped addr

/-- Which command a written code is (R143, R96: the whole word is compared). -/
def selectCommand (P : Config.Params) (wdata : Word) : Instr :=
  if wdata = P.cmdAckInterrupt then .wrBlkCommandAckInterrupt
  else if wdata = P.cmdReadSector then .wrBlkCommandReadSector
  else if wdata = P.cmdWriteSector then .wrBlkCommandWriteSector
  else .wrBlkCommandMalformed wdata

/-- Which register a bus write reaches (R190). -/
def selectWrite (P : Config.Params) (addr wdata : Word) : Instr :=
  if addr = P.addrConsoleOut then .wrConsoleOut wdata
  else if addr = P.addrBlkStatus then .wrBlkStatus wdata
  else if addr = P.addrBlkCommand then selectCommand P wdata
  else if addr = P.addrBlkSector then .wrBlkSector wdata
  else if addr = P.addrBlkData then .wrBlkData wdata
  else if addr = P.addrKeyStatus then .wrKeyStatus wdata
  else if addr = P.addrKeyData then .wrKeyData wdata
  else .wrUnmapped addr wdata

/-- The decoder (R91): by kind, then by direction and address. Fields without meaning are ignored. -/
def decodeWith (P : Config.Params) (w : OpWord) : Except DecodeError Instr :=
  match (opKind w).toNat with
  | 0 => .ok (if opWe w then selectWrite P (opAddr w) (opData w) else selectRead P (opAddr w))
  | 1 => .ok (.inject (opData w))
  | 2 => .ok .attach
  | 3 => .ok .detach
  | 4 => .ok .reset
  | _ => .error (.noOperation (opKind w))

/-- The decoder at the values the spec takes. -/
def decode (w : OpWord) : Except DecodeError Instr := decodeWith Config.params w

/-! ## Encoder: the word of an operation, every field without meaning zero (R90) -/

/-- A bus read's word. -/
def readWord (addr : Word) : OpWord := packOp 0#3 false addr 0#32

/-- A bus write's word. -/
def writeWord (addr wdata : Word) : OpWord := packOp 0#3 true addr wdata

/-- The operation's word (R100). -/
def encodeWith (P : Config.Params) : Instr → OpWord
  | .rdConsoleOut => readWord P.addrConsoleOut
  | .rdBlkStatus => readWord P.addrBlkStatus
  | .rdBlkCommand => readWord P.addrBlkCommand
  | .rdBlkSector => readWord P.addrBlkSector
  | .rdBlkData => readWord P.addrBlkData
  | .rdKeyStatus => readWord P.addrKeyStatus
  | .rdKeyData => readWord P.addrKeyData
  | .wrConsoleOut wdata => writeWord P.addrConsoleOut wdata
  | .wrBlkStatus wdata => writeWord P.addrBlkStatus wdata
  | .wrBlkCommandReadSector => writeWord P.addrBlkCommand P.cmdReadSector
  | .wrBlkCommandWriteSector => writeWord P.addrBlkCommand P.cmdWriteSector
  | .wrBlkCommandAckInterrupt => writeWord P.addrBlkCommand P.cmdAckInterrupt
  | .wrBlkCommandMalformed wdata => writeWord P.addrBlkCommand wdata
  | .wrBlkSector wdata => writeWord P.addrBlkSector wdata
  | .wrBlkData wdata => writeWord P.addrBlkData wdata
  | .wrKeyStatus wdata => writeWord P.addrKeyStatus wdata
  | .wrKeyData wdata => writeWord P.addrKeyData wdata
  | .rdUnmapped addr => readWord addr
  | .wrUnmapped addr wdata => writeWord addr wdata
  | .inject code => packOp 1#3 false 0#32 code
  | .attach => packOp 2#3 false 0#32 0#32
  | .detach => packOp 3#3 false 0#32 0#32
  | .reset => packOp 4#3 false 0#32 0#32

/-- The encoder at the values the spec takes. -/
def encode (i : Instr) : OpWord := encodeWith Config.params i

/-- The word with every field that has no meaning for its kind and direction set to zero (R90). -/
def canonicalWord (w : OpWord) : OpWord :=
  match (opKind w).toNat with
  | 0 => if opWe w then w else readWord (opAddr w)
  | 1 => packOp 1#3 false 0#32 (opData w)
  | _ => packOp (opKind w) false 0#32 0#32

/-! ## The operation map as the spec prints it (R100) -/

/-- One row: a word `w` selects it when `w &&& mask = pattern`. -/
structure OpcodeRow where
  row : Nat
  pattern : OpWord
  mask : OpWord
  deriving DecidableEq, Repr

/-- Rows 1 to 7: bus reads of the registers. -/
def readRows : List OpcodeRow :=
  [⟨1, 0x0FFFF000400000000#68, 0xFFFFFFFFF00000000#68⟩,
    ⟨2, 0x0FFFF001000000000#68, 0xFFFFFFFFF00000000#68⟩,
    ⟨3, 0x0FFFF001400000000#68, 0xFFFFFFFFF00000000#68⟩,
    ⟨4, 0x0FFFF001800000000#68, 0xFFFFFFFFF00000000#68⟩,
    ⟨5, 0x0FFFF001C00000000#68, 0xFFFFFFFFF00000000#68⟩,
    ⟨6, 0x0FFFF002000000000#68, 0xFFFFFFFFF00000000#68⟩,
    ⟨7, 0x0FFFF002400000000#68, 0xFFFFFFFFF00000000#68⟩]

/-- Rows 8 to 17: bus writes of the registers. -/
def writeRows : List OpcodeRow :=
  [⟨8, 0x1FFFF000400000000#68, 0xFFFFFFFFF00000000#68⟩,
    ⟨9, 0x1FFFF001000000000#68, 0xFFFFFFFFF00000000#68⟩,
    ⟨10, 0x1FFFF001400000001#68, 0xFFFFFFFFFFFFFFFFF#68⟩,
    ⟨11, 0x1FFFF001400000002#68, 0xFFFFFFFFFFFFFFFFF#68⟩,
    ⟨12, 0x1FFFF001400000003#68, 0xFFFFFFFFFFFFFFFFF#68⟩,
    ⟨13, 0x1FFFF001400000000#68, 0xFFFFFFFFF00000000#68⟩,
    ⟨14, 0x1FFFF001800000000#68, 0xFFFFFFFFF00000000#68⟩,
    ⟨15, 0x1FFFF001C00000000#68, 0xFFFFFFFFF00000000#68⟩,
    ⟨16, 0x1FFFF002000000000#68, 0xFFFFFFFFF00000000#68⟩,
    ⟨17, 0x1FFFF002400000000#68, 0xFFFFFFFFF00000000#68⟩]

/-- Rows 18 to 23: unmapped accesses and the host's and injector's operations. -/
def otherRows : List OpcodeRow :=
  [⟨18, 0x00000000000000000#68, 0xF0000000000000000#68⟩,
    ⟨19, 0x10000000000000000#68, 0xF0000000000000000#68⟩,
    ⟨20, 0x20000000000000000#68, 0xE0000000000000000#68⟩,
    ⟨21, 0x40000000000000000#68, 0xE0000000000000000#68⟩,
    ⟨22, 0x60000000000000000#68, 0xE0000000000000000#68⟩,
    ⟨23, 0x80000000000000000#68, 0xE0000000000000000#68⟩]

/-- The 23 rows in table order. -/
def opcodeRows : List OpcodeRow := readRows ++ writeRows ++ otherRows

/-- The first row the word selects (R101: rows are tried in order and the first that matches wins). -/
def firstRow (w : OpWord) : Option Nat :=
  (opcodeRows.find? fun r => w &&& r.mask == r.pattern).map (·.row)

/-- The table row of an operation (R100). -/
def Instr.row : Instr → Nat
  | .rdConsoleOut => 1
  | .rdBlkStatus => 2
  | .rdBlkCommand => 3
  | .rdBlkSector => 4
  | .rdBlkData => 5
  | .rdKeyStatus => 6
  | .rdKeyData => 7
  | .wrConsoleOut _ => 8
  | .wrBlkStatus _ => 9
  | .wrBlkCommandReadSector => 10
  | .wrBlkCommandWriteSector => 11
  | .wrBlkCommandAckInterrupt => 12
  | .wrBlkCommandMalformed _ => 13
  | .wrBlkSector _ => 14
  | .wrBlkData _ => 15
  | .wrKeyStatus _ => 16
  | .wrKeyData _ => 17
  | .rdUnmapped _ => 18
  | .wrUnmapped _ _ => 19
  | .inject _ => 20
  | .attach => 21
  | .detach => 22
  | .reset => 23

/-- The operation whose bits, numbered as the opcode table numbers them, are the low `nbits` of `w`.
A number with a bit above bit 67 is no operation word (log 26). -/
def decodeTableWord (nbits w : Nat) : Option Instr :=
  if w % 2 ^ nbits < 2 ^ 68 then (decode (BitVec.ofNat 68 (w % 2 ^ nbits))).toOption else none

end Sys2Proof
end

