-- ==== Sys2Proof/Machine/State.lean ====
section
/-! DEFINITION. The state of the block as plain data (spec/10_state.md R30 to R42), its reset value (R50),
and the reasons a step can stop. -/

namespace Sys2Proof.Machine

/-- The four error kinds (spec/60_exceptions.md R210): results of an operation, stored nowhere except as
the `error` bit (R45, R212; log 24). -/
inductive ErrorKind where
  | openFailed
  | ioFailure
  | outOfRange
  | deviceBusy
  deriving DecidableEq, Repr

/-- What an operation returns to the agent that performed it (spec/30_encoding.md R92, R93; log 3). -/
inductive Response where
  /-- Nothing: a bus write, INJECT, DETACH, RESET. -/
  | nothing
  /-- `rdata`, to the bus master: a bus read. -/
  | data (rdata : Word)
  /-- ok, to the host: ATTACH. -/
  | opened
  /-- An error kind, to the host: ATTACH only, `OpenFailed` only. -/
  | failed (kind : ErrorKind)
  deriving DecidableEq, Repr

/-- Bytes by address: the cells that do not read as 0, addresses strictly rising (Memory.Wf). -/
abbrev Memory := List Host.Cell

/-- A medium: a flat list of `len` bytes (R41, R127), held sparsely. A byte below `len` that no cell
lists is 0, as the zero-fill of spec/40_backing_store.md R124 leaves it (log 7). -/
structure Medium where
  cells : Memory
  len : Nat
  deriving DecidableEq, Repr

/-- The state. The first ten fields are the spec's; the last four are the model's own. -/
structure State where
  /-- `busy` (R30). -/
  busy : Bool
  /-- `error` (R31). -/
  error : Bool
  /-- `pendingCount` (R32). -/
  pendingCount : Nat
  /-- `sectorRegister` (R33). -/
  sectorRegister : Word
  /-- `dataPointer`, a byte offset (R34). -/
  dataPointer : Nat
  /-- `buf`, the sector buffer (R35). -/
  buf : Sector
  /-- `q`, the keyboard queue, head first (R37). -/
  q : List Word
  /-- `console`, the bytes emitted, oldest first (R39). -/
  console : List Byte
  /-- `attached` (R40). -/
  attached : Bool
  /-- `medium`, if it exists (R41, R120; log 7). -/
  medium : Option Medium
  /-- What the latest operation returned (log 3). -/
  response : Response
  /-- The agents' operations still to be performed, oldest first (spec/20_memory.md R77; log 1). -/
  ops : List OpWord
  /-- The medium environment's answers laid out so far, oldest first (R126; log 4). -/
  answers : List Bool
  /-- How many free values have been drawn (log 5). -/
  draws : Nat
  deriving DecidableEq, Repr

/-- Reasons to stop with a fault: none. No operation of the block faults, traps or stalls (R102, R211;
log 25). -/
inductive Fault where
  deriving DecidableEq, Repr

/-- Reasons a step gives an operation no meaning. -/
inductive Refusal where
  /-- Raised by `exec` for an operation the model does not reach: none is left. Safe. -/
  | notModelled (mnemonic : String)
  /-- Raised by ATTACH while attached, to which the spec gives no meaning (R129, U7). Unsafe by the
  spec's own account: U7 says the missing step errs toward proving (log 9). -/
  | attachWhileAttached
  /-- Raised by `step` for a word of kind 5 to 7, which spells no operation (R91, U5). Safe. -/
  | noOperation (kind : BitVec 3)
  deriving DecidableEq, Repr

/-- The outcome of an operation. -/
abbrev Result := Host.Outcome State Fault Refusal

/-- The machine right after reset (R50, R250). `buf` is unspecified: a free value (log 5). The medium is
not reset; in this constant it does not exist yet (log 8). -/
def State.reset : State where
  busy := false
  error := false
  pendingCount := 0
  sectorRegister := 0#32
  dataPointer := 0
  buf := Config.freeSector 0
  q := []
  console := []
  attached := false
  medium := none
  response := .nothing
  ops := []
  answers := []
  draws := 1

end Sys2Proof.Machine
end

