-- ==== Sys2Proof/Machine/Flags.lean ====
section
/-! DEFINITION. The status flags and everything computed from them (spec/10_state.md R21, R25, R38, R43;
spec/41_block_device.md R140, R160; spec/60_exceptions.md R215). None is stored. -/

namespace Sys2Proof.Machine

/-- The `INTERRUPT_PENDING` status bit (R32, R43). -/
def State.interruptPendingBit (s : State) : Bool := decide (0 < s.pendingCount)

/-- `dataAvailable` (R38). -/
def State.dataAvailable (s : State) : Bool := decide (0 < s.q.length)

/-- `BLK_STATUS`'s read value (R21, R140). -/
def State.blkStatus (P : Config.Params) (s : State) : Word :=
  bitAt P.statusBusyBit s.busy ||| bitAt P.statusErrorBit s.error
    ||| bitAt P.statusIrqBit s.interruptPendingBit

/-- `KEY_STATUS`'s read value (R25, R172). -/
def State.keyStatus (P : Config.Params) (s : State) : Word := bitAt P.keyStatusAvailBit s.dataAvailable

/-- `irq()`, the interrupt line, also `interruptPending()` (R196, R215): a level, a pure function of the
state. `error` is no term. -/
def State.irq (s : State) : Bool := s.interruptPendingBit || s.dataAvailable

/-- The controller's named states (R160); `doneBoth` is `DONE_OK` and `DONE_ERROR` together. -/
inductive Phase where
  | idle
  | busy
  | doneOk
  | doneError
  | doneBoth
  deriving DecidableEq, Repr

/-- The controller's state, read off the flags (R160). -/
def State.phase (s : State) : Phase :=
  if s.busy then .busy
  else match s.interruptPendingBit, s.error with
    | false, false => .idle
    | true, false => .doneOk
    | false, true => .doneError
    | true, true => .doneBoth

/-- The phase after a sector operation that succeeded, `BUSY` left behind (R160). -/
def Phase.afterSuccess : Phase → Phase
  | .idle => .doneOk
  | .busy => .busy
  | .doneOk => .doneOk
  | .doneError => .doneBoth
  | .doneBoth => .doneBoth

/-- The phase after a sector operation that failed (R160). -/
def Phase.afterFailure : Phase → Phase
  | .idle => .doneError
  | .busy => .busy
  | .doneOk => .doneBoth
  | .doneError => .doneError
  | .doneBoth => .doneBoth

end Sys2Proof.Machine
end

