-- ==== Sys2Proof/Machine/Operands.lean ====
section
/-! DEFINITION. Operand assembly (spec/30_encoding.md R95): the byte a console write emits, the byte
offset of a sector, and how four bytes of the sector buffer form a bus word (spec/20_memory.md R63,
R65, R66). -/

namespace Sys2Proof.Machine

/-- `CHAR`, the low 8 bits of the written word (R27, R95). -/
def consoleByte (wdata : Word) : Byte := wdata.setWidth 8

/-- A byte as a written word: `zext_32` (R9, R111). -/
def zext32 (b : Byte) : Word := b.setWidth 32

/-- The byte offset of a sector, exact: no wrap to 32 bits (R63, R155). -/
def sectorOffset (index : Word) : Nat := index.toNat * Config.sectorSize

/-- The word of the bytes at offsets `p`, `p + 1`, `p + 2`, `p + 3` (R66; D10). -/
def joinBytes (o : Config.ByteOrder) (b0 b1 b2 b3 : Byte) : Word :=
  match o with
  | .little => b3 ++ (b2 ++ (b1 ++ b0))
  | .big => b0 ++ (b1 ++ (b2 ++ b3))

/-- Byte `k` of a word, counted from its least significant one. -/
def byteOf (w : Word) (k : Nat) : Byte := w.extractLsb' (8 * k) 8

/-- The byte of a word that goes to offset `p + k` (R66; D10). -/
def laneByte (o : Config.ByteOrder) (w : Word) (k : Nat) : Byte :=
  match o with
  | .little => byteOf w k
  | .big => byteOf w (3 - k)

/-- Byte `k` of a sector; 0 at an offset the sector does not have, which no rule reads (log 15). -/
def sectorByte (b : Sector) (k : Nat) : Byte := b.bytes[k]?.getD 0#8

/-- The sector with byte `k` replaced; unchanged at an offset the sector does not have (log 15). -/
def putByte (b : Sector) (k : Nat) (v : Byte) : Sector := ⟨b.bytes.set k v, by simp [b.size]⟩

/-- `BufReadWord(p)` (R66). -/
def bufReadWord (o : Config.ByteOrder) (b : Sector) (p : Nat) : Word :=
  joinBytes o (sectorByte b p) (sectorByte b (p + 1)) (sectorByte b (p + 2)) (sectorByte b (p + 3))

/-- `BufWriteWord(p, w)` (R66): exactly four bytes change; an offset the buffer does not have is dropped,
which no rule asks for (log 15). -/
def bufWriteWord (o : Config.ByteOrder) (b : Sector) (p : Nat) (w : Word) : Sector :=
  putByte (putByte (putByte (putByte b p (laneByte o w 0)) (p + 1) (laneByte o w 1)) (p + 2) (laneByte o w 2))
    (p + 3) (laneByte o w 3)

end Sys2Proof.Machine
end

