-- ==== Sys2Proof/Machine/Ops.lean ====
section
/-! DEFINITION. The named operations over the state: the medium's bytes, the medium environment's draws,
the sector primitives (spec/40_backing_store.md), the command dispatch and the data port
(spec/41_block_device.md), the keyboard queue, the console, and the life cycle. The block takes no
exception and returns from none (spec/60_exceptions.md R211, R225): there is no operation for either.
A rejection is the error kind of R210, which only decides what the operation leaves behind. -/

namespace Sys2Proof.Machine

/-! ## Bytes by address -/

/-- What an address that no cell lists reads as (R124's zero-fill; log 7). -/
def unlistedByte : Byte := 0#8

/-- The canonical form: addresses strictly rising, no cell that reads as an unlisted address does. -/
abbrev Memory.Wf (m : Memory) : Prop :=
  m.Pairwise (fun c d => c.1 < d.1) ∧ ∀ c ∈ m, c.2 ≠ unlistedByte

/-- The byte at an address. -/
def Memory.byte : Memory → Nat → Byte
  | [], _ => unlistedByte
  | (k, b) :: rest, a => if k = a then b else Memory.byte rest a

/-- The cells of the bytes laid out from an address on. -/
def cellsOf : Nat → List Byte → Memory
  | _, [] => []
  | a, b :: rest => if b = unlistedByte then cellsOf (a + 1) rest else (a, b) :: cellsOf (a + 1) rest

/-- Memory with the bytes stored from address `a` on, every other address as before. -/
def Memory.splice (m : Memory) (a : Nat) (bytes : List Byte) : Memory :=
  m.filter (fun c => c.1 < a) ++ cellsOf a bytes ++ m.filter (fun c => a + bytes.length ≤ c.1)

/-! ## The medium as a list of bytes (R41, R63) -/

/-- The canonical form of a medium: canonical cells, none at or beyond the end. -/
abbrev Medium.Wf (m : Medium) : Prop := m.cells.Wf ∧ ∀ c ∈ m.cells, c.1 < m.len

/-- The medium of no bytes: a new medium is empty (R120). -/
def Medium.empty : Medium := ⟨[], 0⟩

/-- The byte at an offset; none at or beyond the end. -/
def Medium.byte? (m : Medium) (a : Nat) : Option Byte := if a < m.len then some (m.cells.byte a) else none

/-- The 512 bytes from an offset on. -/
def Medium.sectorAt (m : Medium) (off : Nat) : Sector := sectorOf fun k => m.cells.byte (off + k)

/-- The medium extended with zero bytes to a length, if it is shorter (R123, R124). -/
def Medium.extendTo (m : Medium) (n : Nat) : Medium := { m with len := max m.len n }

/-- A sector stored at an offset: zero-fill up to it, overwrite, extend when it ends beyond the end (R124). -/
def Medium.storeSector (m : Medium) (off : Nat) (b : Sector) : Medium where
  cells := (m.extendTo off).cells.splice off b.bytes
  len := max (m.extendTo off).len (off + Config.sectorSize)

/-- Unspecified bytes at the offsets `lo` to `lo + n - 1`. -/
def freeBytes (draw lo n : Nat) : List Byte := (List.range n).map fun k => Config.freeByte draw (lo + k)

/-- The length a failed write leaves: anything from the old length to the end of the target sector (U3;
log 6). -/
def Medium.failedLength (m : Medium) (off draw : Nat) : Nat :=
  m.len + Config.freeLength draw % (max m.len (off + Config.sectorSize) - m.len + 1)

/-- A failed write of the sector at an offset (R124, U3; log 6): the target sector and the extension hold
unspecified bytes, every byte below the old length and outside the target sector is as before. -/
def Medium.failedStore (m : Medium) (off draw : Nat) : Medium where
  cells := m.cells.splice (min off m.len)
    (freeBytes draw (min off m.len)
      (min (off + Config.sectorSize) (m.failedLength off draw) - min off m.len))
  len := m.failedLength off draw

/-! ## The state's accessors -/

/-- The attached medium's bytes; a medium that does not exist has none. -/
def State.mediumBytes (s : State) : Medium := s.medium.getD Medium.empty

/-- The operation returns this to its agent. -/
def State.respond (s : State) (r : Response) : State := { s with response := r }

/-- The medium environment's next answer: the oldest laid out, else a free value (R126; log 4). -/
def State.nextAnswer (s : State) : Bool := s.answers.headD (Config.freeAnswer s.draws)

/-- The state with that answer used up. -/
def State.takeAnswer (s : State) : State :=
  { s with answers := s.answers.tail, draws := if s.answers.isEmpty then s.draws + 1 else s.draws }

/-- `buf <- unspecified` (U1, U2; log 5). -/
def State.forgetBuf (s : State) : State :=
  { s with buf := Config.freeSector s.draws, draws := s.draws + 1 }

/-- The five controller variables and `buf` at their reset values (R50). -/
def State.resetController (s : State) : State :=
  { s with busy := false, error := false, pendingCount := 0, sectorRegister := 0#32, dataPointer := 0 }.forgetBuf

/-! ## Sector primitives -/

/-- `MediumRead(i)` (R123): the sector or an error kind, and the state with the answer drawn (and the
medium extended, where `AUTO_EXTEND` says so). -/
def State.mediumRead (P : Config.Params) (s : State) (index : Word) : Except ErrorKind Sector × State :=
  if s.attached then
    if s.nextAnswer then
      if sectorOffset index + Config.sectorSize ≤ s.mediumBytes.len then
        (.ok (s.mediumBytes.sectorAt (sectorOffset index)), s.takeAnswer)
      else if P.autoExtend then
        (.ok ((s.mediumBytes.extendTo (sectorOffset index + Config.sectorSize)).sectorAt (sectorOffset index)),
          { s.takeAnswer with
            medium := some (s.mediumBytes.extendTo (sectorOffset index + Config.sectorSize)) })
      else if s.mediumBytes.len < sectorOffset index then (.error .outOfRange, s.takeAnswer)
      else (.error .ioFailure, s.takeAnswer)
    else (.error .ioFailure, s.takeAnswer)
  else (.error .ioFailure, s)

/-- `MediumWrite(i, bytes)` (R124). -/
def State.mediumWrite (s : State) (index : Word) (b : Sector) : Except ErrorKind Unit × State :=
  if s.attached then
    if s.nextAnswer then
      (.ok (), { s.takeAnswer with medium := some (s.mediumBytes.storeSector (sectorOffset index) b) })
    else
      (.error .ioFailure,
        { s.takeAnswer with
          medium := some (s.mediumBytes.failedStore (sectorOffset index) s.takeAnswer.draws)
          draws := s.takeAnswer.draws + 1 })
  else (.error .ioFailure, s)

/-! ## Command dispatch (R143 to R148) -/

/-- `busy <- 1; dataPointer <- 0` (R144, R145). -/
def State.beginDispatch (s : State) : State := { s with busy := true, dataPointer := 0 }

/-- `busy <- 0` and one more completed command, saturating (R144, R145, R155). -/
def State.completeCommand (P : Config.Params) (s : State) : State :=
  { s with busy := false, pendingCount := min (s.pendingCount + 1) P.pendingMax }

/-- `busy <- 0` and `error <- 1` (R144, R145). -/
def State.failCommand (s : State) : State := { s with busy := false, error := true }

/-- `reject DeviceBusy`: only `error` is set (R147, C4). -/
def State.setError (s : State) : State := { s with error := true }

/-- The `busy` test of a sector command (R143). -/
def State.acceptCommand (s : State) : Except ErrorKind Unit :=
  if s.busy then .error .deviceBusy else .ok ()

/-- A sector command: dispatched when accepted, else only `error` is set (R143, R147). -/
def State.sectorCommand (s : State) (dispatch : State → State) : State :=
  match s.acceptCommand with
  | .ok _ => dispatch s
  | .error _ => s.setError

/-- `READ_SECTOR` with `busy` = 0 (R144). -/
def State.readSector (P : Config.Params) (s : State) : State :=
  match s.beginDispatch.mediumRead P s.sectorRegister with
  | (.ok b, t) => { t.completeCommand P with buf := b }
  | (.error _, t) => t.failCommand.forgetBuf

/-- `WRITE_SECTOR` with `busy` = 0 (R145). -/
def State.writeSector (P : Config.Params) (s : State) : State :=
  match s.beginDispatch.mediumWrite s.sectorRegister s.buf with
  | (.ok _, t) => t.completeCommand P
  | (.error _, t) => t.failCommand

/-- `ACK_INTERRUPT` (R146): one completion less, floor 0, and `error <- 0`. -/
def State.acknowledge (s : State) : State := { s with pendingCount := s.pendingCount - 1, error := false }

/-! ## The data port (R150, R151) -/

/-- A `BLK_DATA` read: the value returned and the state after. -/
def State.dataRead (P : Config.Params) (s : State) : Word × State :=
  if s.dataPointer < Config.sectorSize then
    (bufReadWord P.byteOrder s.buf s.dataPointer,
      { s with dataPointer := s.dataPointer + Config.wordBytes })
  else (Config.sentinel, s)

/-- A `BLK_DATA` write: the state after, or `OutOfRange`. -/
def State.dataWrite (P : Config.Params) (s : State) (wdata : Word) : Except ErrorKind State :=
  if s.dataPointer < Config.sectorSize then
    .ok { s with
      buf := bufWriteWord P.byteOrder s.buf s.dataPointer wdata
      dataPointer := s.dataPointer + Config.wordBytes }
  else .error .outOfRange

/-! ## Keyboard queue and console -/

/-- `inject` (R170): when the queue is full, the oldest entry is dropped first. -/
def State.enqueueKey (P : Config.Params) (s : State) (code : Word) : State :=
  { s with q := (if s.q.length = P.keyQueueCapacity then s.q.tail else s.q) ++ [code] }

/-- A `KEY_DATA` read (R171): the head, or the sentinel. -/
def State.dequeueKey (s : State) : Word × State :=
  match s.q with
  | [] => (Config.sentinel, s)
  | code :: rest => (code, { s with q := rest })

/-- `Emit(b)` (R180). -/
def State.emit (s : State) (b : Byte) : State := { s with console := s.console ++ [b] }

/-! ## Life cycle -/

/-- A successful open: an existing medium keeps its bytes, a new one is empty; the controller is reset (R120). -/
def State.openMedium (s : State) : State :=
  { s with attached := true, medium := some s.mediumBytes }.resetController

/-- ATTACH with `attached` = 0 (R120, R121): the environment's answer decides; a failed one changes
nothing of the block. -/
def State.attachMedium (s : State) : State :=
  if s.nextAnswer then s.takeAnswer.openMedium.respond .opened
  else s.takeAnswer.respond (.failed .openFailed)

/-- DETACH (R122): a no-op when closed. Every successful write is in the medium already (R81; log 22). -/
def State.detachMedium (s : State) : State :=
  if s.attached then { s with attached := false }.resetController else s

/-- RESET of a detached block (R250, R50). -/
def State.construct (s : State) : State :=
  { s with q := [], console := [], attached := false }.resetController

/-- RESET (R250). While attached it is DETACH and then RESET (U8; log 10). -/
def State.resetBlock (s : State) : State := s.detachMedium.construct

end Sys2Proof.Machine
end

