-- ==== Sys2Proof/Machine/BackingStore.lean ====
section
/-! DEFINITION. BackingStore's host operations: ATTACH and DETACH (spec/40_backing_store.md). -/

namespace Sys2Proof.Machine

/-- `ATTACH` (R120, R121). While attached it has no meaning (R129). -/
def execAttach (s : State) : Result :=
  if s.attached then .refused .attachWhileAttached else .next s.attachMedium

/-- `DETACH` (R122): idempotent, never an error. -/
def execDetach (s : State) : Result := .next (s.detachMedium.respond .nothing)

end Sys2Proof.Machine
end

