-- ==== Sys2Proof/Machine/BlockDevice.lean ====
section
/-! DEFINITION. BlockDeviceController: STATUS, SECTOR, COMMAND and DATA (spec/41_block_device.md). -/

namespace Sys2Proof.Machine

/-- `RD BLK_STATUS` (R140): no side effect. -/
def execRdBlkStatus (s : State) : Result := .next (s.respond (.data (s.blkStatus Config.params)))

/-- `RD BLK_SECTOR` (R141). -/
def execRdBlkSector (s : State) : Result := .next (s.respond (.data s.sectorRegister))

/-- `WR BLK_SECTOR` (R142): stored verbatim, no validation. -/
def execWrBlkSector (wdata : Word) (s : State) : Result :=
  .next ({ s with sectorRegister := wdata }.respond .nothing)

/-- `WR BLK_COMMAND, READ_SECTOR` (R143, R144, R147, R148). -/
def execWrBlkCommandReadSector (s : State) : Result :=
  .next ((s.sectorCommand (State.readSector Config.params)).respond .nothing)

/-- `WR BLK_COMMAND, WRITE_SECTOR` (R143, R145, R147, R148). -/
def execWrBlkCommandWriteSector (s : State) : Result :=
  .next ((s.sectorCommand (State.writeSector Config.params)).respond .nothing)

/-- `WR BLK_COMMAND, ACK_INTERRUPT` (R143, R146): accepted whatever `busy` is. -/
def execWrBlkCommandAckInterrupt (s : State) : Result := .next (s.acknowledge.respond .nothing)

/-- `WR BLK_COMMAND` with any other code (R149): ignored, whatever `busy` is. -/
def execWrBlkCommandMalformed (_wdata : Word) (s : State) : Result := .next (s.respond .nothing)

/-- `RD BLK_DATA` (R150). -/
def execRdBlkData (s : State) : Result :=
  .next ((s.dataRead Config.params).2.respond (.data (s.dataRead Config.params).1))

/-- `WR BLK_DATA` (R151): a write past the end is rejected and has no effect. -/
def execWrBlkData (wdata : Word) (s : State) : Result :=
  match s.dataWrite Config.params wdata with
  | .ok t => .next (t.respond .nothing)
  | .error _ => .next (s.respond .nothing)

end Sys2Proof.Machine
end

