-- ==== Sys2Proof/Machine/Console.lean ====
section
/-! DEFINITION. ConsoleDevice: CONSOLE_OUT (spec/43_console.md). -/

namespace Sys2Proof.Machine

/-- `RD CONSOLE_OUT` (R181). -/
def execRdConsoleOut (s : State) : Result := .next (s.respond (.data Config.sentinel))

/-- `WR CONSOLE_OUT` (R180): one byte, emitted at once. -/
def execWrConsoleOut (wdata : Word) (s : State) : Result :=
  .next ((s.emit (consoleByte wdata)).respond .nothing)

end Sys2Proof.Machine
end

