-- ==== Sys2Proof/Machine/Decoder.lean ====
section
/-! DEFINITION. RegisterFile / AddressDecoder: the accesses that select no handler
(spec/44_decoder.md R192 to R195). -/

namespace Sys2Proof.Machine

/-- `RD BLK_COMMAND` (R194): the sentinel, no command is run. -/
def execRdBlkCommand (s : State) : Result := .next (s.respond (.data Config.sentinel))

/-- `WR BLK_STATUS` (R195): a no-op; it clears no flag. -/
def execWrBlkStatus (_wdata : Word) (s : State) : Result := .next (s.respond .nothing)

/-- `WR KEY_STATUS` (R195): a no-op; it does not empty the queue. -/
def execWrKeyStatus (_wdata : Word) (s : State) : Result := .next (s.respond .nothing)

/-- `WR KEY_DATA` (R195): a no-op; it neither injects nor removes a scan code. -/
def execWrKeyData (_wdata : Word) (s : State) : Result := .next (s.respond .nothing)

/-- `RD <unmapped>` (R193): the sentinel. -/
def execRdUnmapped (_addr : Word) (s : State) : Result := .next (s.respond (.data Config.sentinel))

/-- `WR <unmapped>` (R192): a no-op, never a fault. -/
def execWrUnmapped (_addr _wdata : Word) (s : State) : Result := .next (s.respond .nothing)

end Sys2Proof.Machine
end

