-- ==== Sys2Proof/Machine/Keyboard.lean ====
section
/-! DEFINITION. KeyboardQueue: INJECT, KEY_DATA, KEY_STATUS (spec/42_keyboard.md). -/

namespace Sys2Proof.Machine

/-- `RD KEY_STATUS` (R172): no side effect. -/
def execRdKeyStatus (s : State) : Result := .next (s.respond (.data (s.keyStatus Config.params)))

/-- `RD KEY_DATA` (R171): pops the head; the sentinel when empty. -/
def execRdKeyData (s : State) : Result := .next (s.dequeueKey.2.respond (.data s.dequeueKey.1))

/-- `INJECT` (R170): never blocks, never errors. -/
def execInject (code : Word) (s : State) : Result :=
  .next ((s.enqueueKey Config.params code).respond .nothing)

end Sys2Proof.Machine
end

