-- ==== Sys2Proof/Machine/Lifecycle.lean ====
section
/-! DEFINITION. The operation RESET: construction of the block (spec/70_reset_and_hazards.md R250). -/

namespace Sys2Proof.Machine

/-- `RESET` (R250, R50): every variable at its reset value, `medium` kept. -/
def execReset (s : State) : Result := .next (s.resetBlock.respond .nothing)

end Sys2Proof.Machine
end

