-- ==== Sys2Proof/Machine/Dispatch.lean ====
section
/-! DEFINITION. The meaning of each operation: one arm per constructor of Instr. -/

namespace Sys2Proof.Machine

/-- One operation, performed atomically (spec/20_memory.md R75). -/
def exec (i : Instr) (s : State) : Host.Outcome State Fault Refusal :=
  match i with
  | .rdConsoleOut => Sys2Proof.Machine.execRdConsoleOut s
  | .rdBlkStatus => Sys2Proof.Machine.execRdBlkStatus s
  | .rdBlkCommand => Sys2Proof.Machine.execRdBlkCommand s
  | .rdBlkSector => Sys2Proof.Machine.execRdBlkSector s
  | .rdBlkData => Sys2Proof.Machine.execRdBlkData s
  | .rdKeyStatus => Sys2Proof.Machine.execRdKeyStatus s
  | .rdKeyData => Sys2Proof.Machine.execRdKeyData s
  | .wrConsoleOut wdata => Sys2Proof.Machine.execWrConsoleOut wdata s
  | .wrBlkStatus wdata => Sys2Proof.Machine.execWrBlkStatus wdata s
  | .wrBlkCommandReadSector => Sys2Proof.Machine.execWrBlkCommandReadSector s
  | .wrBlkCommandWriteSector => Sys2Proof.Machine.execWrBlkCommandWriteSector s
  | .wrBlkCommandAckInterrupt => Sys2Proof.Machine.execWrBlkCommandAckInterrupt s
  | .wrBlkCommandMalformed wdata => Sys2Proof.Machine.execWrBlkCommandMalformed wdata s
  | .wrBlkSector wdata => Sys2Proof.Machine.execWrBlkSector wdata s
  | .wrBlkData wdata => Sys2Proof.Machine.execWrBlkData wdata s
  | .wrKeyStatus wdata => Sys2Proof.Machine.execWrKeyStatus wdata s
  | .wrKeyData wdata => Sys2Proof.Machine.execWrKeyData wdata s
  | .rdUnmapped addr => Sys2Proof.Machine.execRdUnmapped addr s
  | .wrUnmapped addr wdata => Sys2Proof.Machine.execWrUnmapped addr wdata s
  | .inject code => Sys2Proof.Machine.execInject code s
  | .attach => Sys2Proof.Machine.execAttach s
  | .detach => Sys2Proof.Machine.execDetach s
  | .reset => Sys2Proof.Machine.execReset s

end Sys2Proof.Machine
end

