-- ==== Sys2Proof/Machine/Step.lean ====
section
/-! DEFINITION. One step: the oldest operation still to be performed, decoded and performed
(spec/00_scope.md R5, spec/20_memory.md R75 to R77; log 1, 2). -/

namespace Sys2Proof.Machine

/-- With no operation waiting the block does nothing (R6: it never takes a step of its own; log 2). A word
that spells no operation is refused by name (R91). -/
def step (s : State) : Host.Outcome State Fault Refusal :=
  match s.ops with
  | [] => .next s
  | w :: rest =>
    match decode w with
    | .ok i => exec i { s with ops := rest }
    | .error (.noOperation kind) => .refused (.noOperation kind)

/-- The operation word whose bits are the low `nbits` of `w`, placed as the next one to be performed. -/
def State.withFetchWord (s : State) (nbits w : Nat) : State :=
  { s with ops := BitVec.ofNat 68 (w % 2 ^ nbits) :: s.ops }

end Sys2Proof.Machine
end

