-- ==== Sys2Proof/Machine/Pseudo.lean ====
section
/-! DEFINITION. The pseudo-operations: abbreviations for sequences of operations, with no behaviour beyond
their expansion (spec/30_encoding.md R111). -/

namespace Sys2Proof.Machine

/-- The pseudo-operations of R111. -/
inductive Pseudo where
  | putc (c : Byte)
  | puts (text : List Byte)
  | blkRead (index : Word)
  | blkWrite (index : Word)
  | blkAck
  | blkFill (words : List Word)
  | blkDrain
  | blkPoll
  | keyPoll
  | keyGet
  deriving DecidableEq, Repr

/-- The expansion (R111). `BLK_FILL` and `BLK_DRAIN` are 128 accesses when given 128 words. -/
def Pseudo.expand : Pseudo → List Instr
  | .putc c => [.wrConsoleOut (zext32 c)]
  | .puts text => text.map fun c => .wrConsoleOut (zext32 c)
  | .blkRead index => [.wrBlkSector index, .wrBlkCommandReadSector]
  | .blkWrite index => [.wrBlkSector index, .wrBlkCommandWriteSector]
  | .blkAck => [.wrBlkCommandAckInterrupt]
  | .blkFill words => words.map .wrBlkData
  | .blkDrain => List.replicate 128 .rdBlkData
  | .blkPoll => [.rdBlkStatus]
  | .keyPoll => [.rdKeyStatus]
  | .keyGet => [.rdKeyData]

end Sys2Proof.Machine
end

