-- ==== Sys2Proof/Safety.lean ====
section
/-! DEFINITION. The terms claims use: the invariants I1 to I6 (spec/10_state.md R46), which agent performs an
operation (spec/00_scope.md R6), the two bus primitives (spec/00_scope.md R11), sequences of operations,
and which parts of the state two states share. -/

namespace Sys2Proof.Machine

/-! ## Invariants (R46) -/

/-- I2: `dataPointer` is one of 0, 4, ..., 512. -/
abbrev State.PointerLegal (s : State) : Prop :=
  s.dataPointer % Config.wordBytes = 0 ∧ s.dataPointer ≤ Config.sectorSize

/-- I5 and the canonical form: an attached store has a medium, and the medium is canonical. -/
abbrev State.MediumLegal (s : State) : Prop := s.mediumBytes.Wf ∧ (s.attached = true → s.medium ≠ none)

/-- I1 to I5 (I6 follows from I1), with the medium's canonical form. -/
abbrev State.Inv (P : Config.Params) (s : State) : Prop :=
  s.busy = false ∧ s.PointerLegal ∧ s.q.length ≤ P.keyQueueCapacity ∧ s.pendingCount ≤ P.pendingMax
    ∧ s.MediumLegal

/-! ## Agents (R6) -/

/-- Who performs an operation. -/
inductive Agent where
  | busMaster
  | keyInjector
  | host
  deriving DecidableEq, Repr

/-! ## Devices (R2, R20) -/

/-- The owner of a register. -/
inductive Device where
  | console
  | blockDevice
  | keyboard
  deriving DecidableEq, Repr

end Sys2Proof.Machine

namespace Sys2Proof

/-- The agent of an operation (R6, R91). -/
def Instr.agent : Instr → Machine.Agent
  | .inject _ => .keyInjector
  | .attach => .host
  | .detach => .host
  | .reset => .host
  | .rdConsoleOut => .busMaster
  | .rdBlkStatus => .busMaster
  | .rdBlkCommand => .busMaster
  | .rdBlkSector => .busMaster
  | .rdBlkData => .busMaster
  | .rdKeyStatus => .busMaster
  | .rdKeyData => .busMaster
  | .wrConsoleOut _ => .busMaster
  | .wrBlkStatus _ => .busMaster
  | .wrBlkCommandReadSector => .busMaster
  | .wrBlkCommandWriteSector => .busMaster
  | .wrBlkCommandAckInterrupt => .busMaster
  | .wrBlkCommandMalformed _ => .busMaster
  | .wrBlkSector _ => .busMaster
  | .wrBlkData _ => .busMaster
  | .wrKeyStatus _ => .busMaster
  | .wrKeyData _ => .busMaster
  | .rdUnmapped _ => .busMaster
  | .wrUnmapped _ _ => .busMaster

/-- The device whose state the operation is about (R20, R197): the owner of the register a bus access
reaches, the keyboard for INJECT, the block device for ATTACH and DETACH; none for an unmapped access and
for RESET, which is a new block. -/
def Instr.owner : Instr → Option Machine.Device
  | .rdConsoleOut => some .console
  | .wrConsoleOut _ => some .console
  | .rdKeyStatus => some .keyboard
  | .rdKeyData => some .keyboard
  | .wrKeyStatus _ => some .keyboard
  | .wrKeyData _ => some .keyboard
  | .inject _ => some .keyboard
  | .rdBlkStatus => some .blockDevice
  | .rdBlkCommand => some .blockDevice
  | .rdBlkSector => some .blockDevice
  | .rdBlkData => some .blockDevice
  | .wrBlkStatus _ => some .blockDevice
  | .wrBlkCommandReadSector => some .blockDevice
  | .wrBlkCommandWriteSector => some .blockDevice
  | .wrBlkCommandAckInterrupt => some .blockDevice
  | .wrBlkCommandMalformed _ => some .blockDevice
  | .wrBlkSector _ => some .blockDevice
  | .wrBlkData _ => some .blockDevice
  | .attach => some .blockDevice
  | .detach => some .blockDevice
  | .rdUnmapped _ => none
  | .wrUnmapped _ _ => none
  | .reset => none

/-- The operation is a bus read: it returns a word (R92). -/
def Instr.isRead : Instr → Bool
  | .rdConsoleOut => true
  | .rdBlkStatus => true
  | .rdBlkCommand => true
  | .rdBlkSector => true
  | .rdBlkData => true
  | .rdKeyStatus => true
  | .rdKeyData => true
  | .rdUnmapped _ => true
  | .wrConsoleOut _ => false
  | .wrBlkStatus _ => false
  | .wrBlkCommandReadSector => false
  | .wrBlkCommandWriteSector => false
  | .wrBlkCommandAckInterrupt => false
  | .wrBlkCommandMalformed _ => false
  | .wrBlkSector _ => false
  | .wrBlkData _ => false
  | .wrKeyStatus _ => false
  | .wrKeyData _ => false
  | .wrUnmapped _ _ => false
  | .inject _ => false
  | .attach => false
  | .detach => false
  | .reset => false

end Sys2Proof

namespace Sys2Proof.Machine

/-! ## The bus primitives (R11, R190, R191) -/

/-- `BusRead(addr)` (R191). -/
def busRead (addr : Word) (s : State) : Result := exec (selectRead Config.params addr) s

/-- `BusWrite(addr, wdata)` (R190). -/
def busWrite (addr wdata : Word) (s : State) : Result := exec (selectWrite Config.params addr wdata) s

/-! ## Sequences of operations (R76) -/

/-- The operations performed one after the other, stopping at the first fault or refusal. -/
def execAll : List Instr → State → Result
  | [], s => .next s
  | i :: rest, s =>
    match exec i s with
    | .next t => execAll rest t
    | .fault f => .fault f
    | .refused r => .refused r

/-! ## Parts of the state -/

/-- The controller's variables and the sector buffer are the same (R30 to R35). -/
abbrev State.SameController (s t : State) : Prop :=
  t.busy = s.busy ∧ t.error = s.error ∧ t.pendingCount = s.pendingCount
    ∧ t.sectorRegister = s.sectorRegister ∧ t.dataPointer = s.dataPointer ∧ t.buf = s.buf

/-- The backing store is the same (R40, R41). -/
abbrev State.SameStore (s t : State) : Prop := t.attached = s.attached ∧ t.medium = s.medium

/-- The state of one device is the same. The medium environment (its answers and draws) belongs to the
block device, the only one that asks it. -/
abbrev State.SameDevice (d : Device) (s t : State) : Prop :=
  match d with
  | .console => t.console = s.console
  | .keyboard => t.q = s.q
  | .blockDevice => s.SameController t ∧ s.SameStore t ∧ t.answers = s.answers ∧ t.draws = s.draws

/-- The sector the sector register selects lies inside the medium (R123). -/
abbrev State.SectorInside (s : State) : Prop :=
  (s.sectorRegister.toNat + 1) * 512 ≤ s.mediumBytes.len

/-! ## How a sector command ends -/

/-- The two sector commands (R143). -/
abbrev SectorCommand (i : Instr) : Prop := i = .wrBlkCommandReadSector ∨ i = .wrBlkCommandWriteSector

/-- The backing store carries the sector operation out: it is attached, the environment answers with success,
and a sector to be read lies inside the medium (R123, R124, R126; D21). -/
abbrev State.StoreOk (i : Instr) (s : State) : Prop :=
  s.attached = true ∧ s.nextAnswer = true ∧ (i = .wrBlkCommandReadSector → s.SectorInside)

/-- A sector command that is dispatched and succeeds (R144, R145). -/
abbrev State.CommandSucceeds (i : Instr) (s : State) : Prop :=
  SectorCommand i ∧ s.busy = false ∧ s.StoreOk i

/-- A sector command that is rejected because of `busy`, or dispatched and failed (R144, R145, R147). -/
abbrev State.CommandFails (i : Instr) (s : State) : Prop := SectorCommand i ∧ (s.busy = true ∨ ¬ s.StoreOk i)

/-- The operation from `s` to `t` replaces the controller: RESET, an ATTACH that succeeds, a DETACH of an open
store (R50, R120, R122; D22). -/
abbrev State.ControllerReplaced (i : Instr) (s t : State) : Prop :=
  i = .reset ∨ ((i = .attach ∨ i = .detach) ∧ t.attached ≠ s.attached)

end Sys2Proof.Machine
end

