-- ==== Sys2Proof/Certificates/Slice0/Obligations.lean ====
section
/-! DEFINITION. The statements for the provers, from the numbered rules of spec/. A docstring names the rule
it formalises, or, where a clause rests on a decision of the spec (D<n>) or a choice of the model (log <n>),
says so. -/

open Sys2Proof Sys2Proof.Machine

/-! ## Encoding (30_encoding.md) -/

/-- For all parameters the spec allows, decoding an encoded well-formed operation gives it back, operands
and all. The packing is the spec's decision D31. -/
def Obligations.DecodeOfEncodeIsTheOperation : Prop :=
  ∀ P : Config.Params, P.Valid → ∀ i : Instr, i.WellFormed P → decodeWith P (encodeWith P i) = .ok i

/-- A decoded operation is well-formed, and its encoding is the word with every field that is not meaningful
set to zero: no other bit is lost. Rests on D31. -/
def Obligations.EncodeOfDecodeIsTheCanonicalWord : Prop :=
  ∀ (P : Config.Params) (w : OpWord) (i : Instr), decodeWith P w = .ok i →
    i.WellFormed P ∧ encodeWith P i = canonicalWord w

/-- The decoder accepts exactly the words of kind 0 to 4, and rejects the others by their kind (R91, R101;
D31). -/
def Obligations.ExactlyKinds5To7AreRejected : Prop :=
  ∀ w : OpWord,
    ((opKind w).toNat ≤ 4 → ∃ i, decode w = .ok i) ∧
    (5 ≤ (opKind w).toNat → decode w = .error (.noOperation (opKind w)))

/-- The decoder selects the first row of the printed operation map whose match and mask the word meets, and
rejects a word that meets none (R100, R101; D31). -/
def Obligations.DecoderAgreesWithTheOperationMap : Prop :=
  ∀ w : OpWord, firstRow w =
    match decode w with
    | .ok i => some i.row
    | .error _ => none

/-- Words of the spec's encoding vectors (95_test_vectors.md section 3). -/
def Obligations.EncodingVectorsDecode : Prop :=
  decode 0x0FFFF0010DEADBEEF#68 = .ok .rdBlkStatus ∧
  decode 0x1FFFF001400000003#68 = .ok .wrBlkCommandAckInterrupt ∧
  decode 0x1FFFF001480000001#68 = .ok (.wrBlkCommandMalformed 0x80000001#32) ∧
  decode 0x0FFFF001200000000#68 = .ok (.rdUnmapped 0xFFFF0012#32) ∧
  decode 0x3000000000000001C#68 = .ok (.inject 0x1C#32) ∧
  decode 0x1FFFF000400000068#68 = .ok (.wrConsoleOut 0x68#32) ∧
  decode 0x80000000000000000#68 = .ok .reset

/-! ## The step -/

/-- One step performs the oldest operation waiting, decoded, with that operation taken off the sequence (R5,
R76; the sequence as a field is the model's choice, log 1). -/
def Obligations.StepPerformsTheDecodedOperation : Prop :=
  ∀ (s : State) (w : OpWord) (rest : List OpWord) (i : Instr),
    s.ops = w :: rest → decode w = .ok i → step s = exec i { s with ops := rest }

/-- With no operation waiting nothing happens (the model's choice, log 2); a word of kind 5 to 7 is refused
by name (U5). -/
def Obligations.StepWithoutAnOperation : Prop :=
  ∀ s : State,
    (s.ops = [] → step s = .next s) ∧
    (∀ w rest, s.ops = w :: rest → 5 ≤ (opKind w).toNat → step s = .refused (.noOperation (opKind w)))

/-! ## Accesses that select no handler (44_decoder.md) -/

/-- R192, R193: an access to an address that is no register changes nothing; a read of it returns the
sentinel. -/
def Obligations.UnmappedAccessesDoNothing : Prop :=
  ∀ (s : State) (addr wdata : Word), addr ∉ Config.params.addresses →
    busRead addr s = .next { s with response := .data 0xFFFFFFFF#32 } ∧
    busWrite addr wdata s = .next { s with response := .nothing } ∧
    exec (.rdUnmapped addr) s = .next { s with response := .data 0xFFFFFFFF#32 } ∧
    exec (.wrUnmapped addr wdata) s = .next { s with response := .nothing }

/-- Which addresses are registers, and that every misaligned address, the base, the gap and everything
outside the block is none (R68, R70, R192's corner cases; the numbers are D2, D3, D11). -/
def Obligations.AddressMapIsExact : Prop :=
  ∀ addr : Word,
    (addr ∈ Config.params.addresses ↔
      addr.toNat = 0xFFFF0004 ∨ (addr.toNat % 4 = 0 ∧ 0xFFFF0010 ≤ addr.toNat ∧ addr.toNat ≤ 0xFFFF0024)) ∧
    Config.ioBase ∉ Config.params.addresses

/-- A read of the write-only command register returns the sentinel; a write of a read-only register does
nothing (R194, R195; D12, D13). -/
def Obligations.WrongDirectionAccessesDoNothing : Prop :=
  ∀ (s : State) (wdata : Word),
    exec .rdBlkCommand s = .next { s with response := .data 0xFFFFFFFF#32 } ∧
    exec (.wrBlkStatus wdata) s = .next { s with response := .nothing } ∧
    exec (.wrKeyStatus wdata) s = .next { s with response := .nothing } ∧
    exec (.wrKeyData wdata) s = .next { s with response := .nothing }

/-- Isolation (R197): a bus access changes the state of the device that owns the addressed register and of no
other; what it returns, and what it makes of its own device, depends on that device alone. The medium
environment's answers and the draw count of the free values are counted as the block device's: that two runs
with the same ones leave the same unspecified bytes is the model's choice (log 4, log 5), not R197's. -/
def Obligations.BusAccessesAreIsolated : Prop :=
  (∀ (i : Instr) (s t : State) (d : Device), i.agent = .busMaster → exec i s = .next t →
    i.owner ≠ some d → s.SameDevice d t) ∧
  (∀ (i : Instr) (s s' t t' : State) (d : Device), i.agent = .busMaster → i.owner = some d →
    s.SameDevice d s' → exec i s = .next t → exec i s' = .next t' →
    t'.response = t.response ∧ t.SameDevice d t')

/-- R198: a bus operation reaches `attached`, `medium`, `dataPointer` and `pendingCount` only through the
register rules, and cannot ATTACH, DETACH, RESET or INJECT. -/
def Obligations.DecoderIsTheOnlyWayIn : Prop :=
  ∀ (i : Instr) (s t : State), i.agent = .busMaster → exec i s = .next t →
    t.attached = s.attached ∧
    (t.medium ≠ s.medium → i = .wrBlkCommandWriteSector) ∧
    (t.dataPointer ≠ s.dataPointer →
      i = .wrBlkCommandReadSector ∨ i = .wrBlkCommandWriteSector ∨ i = .rdBlkData ∨ ∃ w, i = .wrBlkData w) ∧
    (t.pendingCount ≠ s.pendingCount →
      i = .wrBlkCommandReadSector ∨ i = .wrBlkCommandWriteSector ∨ i = .wrBlkCommandAckInterrupt) ∧
    t.q <:+ s.q ∧ s.console <+: t.console

/-! ## Block device: STATUS and SECTOR (41_block_device.md section 1) -/

/-- `RD BLK_STATUS` (R140, R21; the bit positions are D6): bit by bit, and nothing of the block changes. -/
def Obligations.BlkStatusReadValue : Prop :=
  ∀ s : State, ∃ v : Word,
    exec .rdBlkStatus s = .next { s with response := .data v } ∧
    v.getLsbD 0 = s.busy ∧ v.getLsbD 1 = s.error ∧ v.getLsbD 2 = decide (0 < s.pendingCount) ∧
    ∀ k, 3 ≤ k → v.getLsbD k = false

/-- `RD BLK_SECTOR` returns the sector register, without side effect (R141; D26). -/
def Obligations.BlkSectorReadValue : Prop :=
  ∀ s : State, exec .rdBlkSector s = .next { s with response := .data s.sectorRegister }

/-- R142: a write of `BLK_SECTOR` stores the value verbatim, whatever it is and whatever the state, and
changes nothing else; the interrupt line is unchanged. -/
def Obligations.BlkSectorWriteStoresVerbatim : Prop :=
  ∀ (s : State) (wdata : Word), ∃ t : State,
    exec (.wrBlkSector wdata) s = .next t ∧
    t = { s with sectorRegister := wdata, response := .nothing } ∧ t.irq = s.irq

/-- What writes the sector register (part of R33): it is written by `WR BLK_SECTOR`; no command changes it;
a rejected command leaves it and the sector buffer unchanged. -/
def Obligations.NoCommandChangesTheSectorRegister : Prop :=
  ∀ (i : Instr) (s t : State), exec i s = .next t →
    (t.sectorRegister ≠ s.sectorRegister →
      (∃ w, i = .wrBlkSector w ∧ t.sectorRegister = w) ∨ i = .attach ∨ i = .detach ∨ i = .reset) ∧
    (s.busy = true → i = .wrBlkCommandReadSector ∨ i = .wrBlkCommandWriteSector →
      t.sectorRegister = s.sectorRegister ∧ t.buf = s.buf)

/-! ## Block device: COMMAND (section 2) -/

/-- `READ_SECTOR` on an attached store, the environment answering with success and the sector inside the
medium (R144, R123; D14, D32): the buffer holds the sector's bytes, one more completion is pending,
saturating, and nothing else of the block changes. -/
def Obligations.ReadSectorSucceeds : Prop :=
  ∀ s : State, s.busy = false → s.attached = true → s.nextAnswer = true → s.SectorInside →
    ∃ (b : Sector) (a : List Bool) (d : Nat),
      exec .wrBlkCommandReadSector s = .next { s with
        buf := b, dataPointer := 0, pendingCount := min (s.pendingCount + 1) (2 ^ 32 - 1)
        response := .nothing, answers := a, draws := d } ∧
      ∀ k < 512, s.mediumBytes.byte? (s.sectorRegister.toNat * 512 + k) = some (sectorByte b k)

/-- `READ_SECTOR` with no store, a host failure, or a sector not wholly inside the medium (R144, R148; D18,
D19, D21): the pointer is rewound, `error` is set, the buffer is unspecified, nothing else of the block
changes; the interrupt line is unchanged. -/
def Obligations.ReadSectorFails : Prop :=
  ∀ s : State, s.busy = false → (s.attached = false ∨ s.nextAnswer = false ∨ ¬ s.SectorInside) →
    ∃ (b : Sector) (a : List Bool) (d : Nat) (t : State),
      exec .wrBlkCommandReadSector s = .next t ∧
      t = { s with
        buf := b, dataPointer := 0, error := true, response := .nothing, answers := a, draws := d } ∧
      t.irq = s.irq

/-- `WRITE_SECTOR` on an attached store, the environment answering with success (R145, R124; D14, D32): the
bytes of the buffer at the sector's offset, zeros between the old end and the sector, every other byte as
before, none beyond the new end; one more completion is pending; nothing else of the block changes. The
premise is the medium's canonical form, which every step keeps (StepKeepsTheInvariants). -/
def Obligations.WriteSectorSucceeds : Prop :=
  ∀ s : State, s.busy = false → s.attached = true → s.nextAnswer = true → s.mediumBytes.Wf →
    ∃ (m : Medium) (a : List Bool) (d : Nat),
      exec .wrBlkCommandWriteSector s = .next { s with
        medium := some m, dataPointer := 0, pendingCount := min (s.pendingCount + 1) (2 ^ 32 - 1)
        response := .nothing, answers := a, draws := d } ∧
      m.len = max s.mediumBytes.len (sectorOffset s.sectorRegister + 512) ∧
      ∀ x, m.byte? x =
        if sectorOffset s.sectorRegister ≤ x ∧ x < sectorOffset s.sectorRegister + 512 then
          some (sectorByte s.buf (x - sectorOffset s.sectorRegister))
        else if x < s.mediumBytes.len then s.mediumBytes.byte? x
        else if x < sectorOffset s.sectorRegister then some 0#8
        else none

/-- `WRITE_SECTOR` on an attached store, the environment answering with failure (R145, R124; D18): `error`
is set, the pointer rewound, and of the medium only the target sector and the extension may change. -/
def Obligations.WriteSectorFails : Prop :=
  ∀ s : State, s.busy = false → s.attached = true → s.nextAnswer = false →
    ∃ (m : Medium) (a : List Bool) (d : Nat),
      exec .wrBlkCommandWriteSector s = .next { s with
        medium := some m, dataPointer := 0, error := true, response := .nothing, answers := a, draws := d } ∧
      s.mediumBytes.len ≤ m.len ∧
      m.len ≤ max s.mediumBytes.len (sectorOffset s.sectorRegister + 512) ∧
      ∀ x < s.mediumBytes.len,
        (x < sectorOffset s.sectorRegister ∨ sectorOffset s.sectorRegister + 512 ≤ x) →
        m.byte? x = s.mediumBytes.byte? x

/-- `WRITE_SECTOR` with no store attached (R148; D21): `error`, the pointer rewound, the medium untouched.
-/
def Obligations.WriteSectorWithoutStoreFails : Prop :=
  ∀ s : State, s.busy = false → s.attached = false →
    exec .wrBlkCommandWriteSector s = .next { s with
      dataPointer := 0, error := true, response := .nothing }

/-- A sector command while `busy` = 1 sets `error` and changes nothing else (R147; D15, C4). -/
def Obligations.SectorCommandWhileBusyIsRejected : Prop :=
  ∀ s : State, s.busy = true →
    exec .wrBlkCommandReadSector s = .next { s with error := true, response := .nothing } ∧
    exec .wrBlkCommandWriteSector s = .next { s with error := true, response := .nothing }

/-- `ACK_INTERRUPT` (R146; D14, D16): one completion less, floor 0, `error` cleared, whatever `busy` and
`attached` are; nothing else changes. -/
def Obligations.AcknowledgeTakesOneCompletion : Prop :=
  ∀ s : State,
    (s.pendingCount = 0 →
      exec .wrBlkCommandAckInterrupt s = .next { s with error := false, response := .nothing }) ∧
    (∀ n, s.pendingCount = n + 1 →
      exec .wrBlkCommandAckInterrupt s =
        .next { s with pendingCount := n, error := false, response := .nothing })

/-- A code other than 1, 2 and 3, compared as a whole word, is ignored, whatever `busy` is (R149, R96; D5,
D35). -/
def Obligations.MalformedCommandIsIgnored : Prop :=
  ∀ (s : State) (wdata : Word), wdata ≠ 1#32 → wdata ≠ 2#32 → wdata ≠ 3#32 →
    busWrite 0xFFFF0014#32 wdata s = .next { s with response := .nothing } ∧
    exec (.wrBlkCommandMalformed wdata) s = .next { s with response := .nothing }

/-- The controller's states and their transitions, as phases (R160, resting on D14, D15, D32). -/
def Obligations.ControllerPhaseTransitions : Prop :=
  ∀ s : State,
    (s.busy = false → ∃ t, exec .wrBlkCommandReadSector s = .next t ∧
      t.phase = if s.attached = true ∧ s.nextAnswer = true ∧ s.SectorInside
        then s.phase.afterSuccess else s.phase.afterFailure) ∧
    (s.busy = false → ∃ t, exec .wrBlkCommandWriteSector s = .next t ∧
      t.phase = if s.attached = true ∧ s.nextAnswer = true
        then s.phase.afterSuccess else s.phase.afterFailure) ∧
    (∃ t, exec .wrBlkCommandAckInterrupt s = .next t ∧
      t.phase = if s.busy = true then .busy else if s.pendingCount ≤ 1 then .idle else .doneOk) ∧
    (∀ w, ∃ t, exec (.wrBlkCommandMalformed w) s = .next t ∧ t.phase = s.phase) ∧
    (s.busy = true → ∀ i, i = .wrBlkCommandReadSector ∨ i = .wrBlkCommandWriteSector →
      ∃ t, exec i s = .next t ∧ t.phase = .busy ∧ t.error = true)

/-! ## Block device: DATA (section 3) -/

/-- `RD BLK_DATA` (R150; D9, D10, D17): inside the buffer the four bytes at the pointer, the first lowest,
and the pointer moves on by 4; at the end the sentinel, and nothing changes. -/
def Obligations.BlkDataRead : Prop :=
  ∀ s : State,
    (s.dataPointer < 512 → ∃ v : Word,
      exec .rdBlkData s = .next { s with dataPointer := s.dataPointer + 4, response := .data v } ∧
      v.toNat = (sectorByte s.buf s.dataPointer).toNat + 2 ^ 8 * (sectorByte s.buf (s.dataPointer + 1)).toNat
        + 2 ^ 16 * (sectorByte s.buf (s.dataPointer + 2)).toNat
        + 2 ^ 24 * (sectorByte s.buf (s.dataPointer + 3)).toNat) ∧
    (512 ≤ s.dataPointer → exec .rdBlkData s = .next { s with response := .data 0xFFFFFFFF#32 })

/-- `WR BLK_DATA` (R151; D9, D10, D17): inside the buffer the word's bytes, low byte first, go to the four
offsets at the pointer, no other byte changes, and the pointer moves on by 4; at the end nothing changes. -/
def Obligations.BlkDataWrite : Prop :=
  ∀ (s : State) (wdata : Word),
    (s.dataPointer < 512 → ∃ b : Sector,
      exec (.wrBlkData wdata) s =
        .next { s with buf := b, dataPointer := s.dataPointer + 4, response := .nothing } ∧
      ∀ k < 512, (sectorByte b k).toNat =
        if s.dataPointer ≤ k ∧ k < s.dataPointer + 4 then wdata.toNat / 2 ^ (8 * (k - s.dataPointer)) % 2 ^ 8
        else (sectorByte s.buf k).toNat) ∧
    (512 ≤ s.dataPointer → exec (.wrBlkData wdata) s = .next { s with response := .nothing })

/-- A word written into the buffer reads back, in either byte order (R66; D10). -/
def Obligations.BufferWordReadsBack : Prop :=
  ∀ (o : Config.ByteOrder) (b : Sector) (p : Nat) (w : Word), p + 4 ≤ 512 →
    bufReadWord o (bufWriteWord o b p w) p = w ∧
    ∀ k, (k < p ∨ p + 4 ≤ k) → sectorByte (bufWriteWord o b p w) k = sectorByte b k

/-- From a rewound pointer, the reads of `BLK_DATA` return the 128 words of the buffer in order, and after
them the sentinel; nothing but the pointer moves (R152 a; D9, D10). -/
def Obligations.DataReadsStreamTheBuffer : Prop :=
  ∀ (s : State) (n : Nat), s.dataPointer = 0 →
    execAll (List.replicate (n + 1) .rdBlkData) s = .next { s with
      dataPointer := min (4 * (n + 1)) 512
      response := .data (if n < 128 then bufReadWord .little s.buf (4 * n) else 0xFFFFFFFF#32) }

/-- From a rewound pointer, the words written to `BLK_DATA` fill the buffer in order; those after the 128th
are dropped, and bytes not reached keep their value (R152 b; D9, D10). -/
def Obligations.DataWritesFillTheBuffer : Prop :=
  ∀ (s : State) (words : List Word), s.dataPointer = 0 →
    ∃ (b : Sector) (r : Response),
      execAll (Pseudo.blkFill words).expand s = .next { s with
        buf := b, dataPointer := min (4 * words.length) 512, response := r } ∧
      (∀ (j : Nat) (h : j < words.length), j < 128 → bufReadWord .little b (4 * j) = words[j]) ∧
      ∀ k, 4 * words.length ≤ k → sectorByte b k = sectorByte s.buf k

/-! ## Backing store (40_backing_store.md) -/

/-- A sector written and then read back is the data written, whatever the buffer holds in between, and a write
to one sector leaves the bytes of every other sector inside the medium as they were (R125, an inference of the
spec from R123 and R124). -/
def Obligations.SectorRoundTrip : Prop :=
  ∀ (s : State) (rest : List Bool), s.busy = false → s.attached = true → s.answers = true :: true :: rest →
    ∃ t, exec .wrBlkCommandWriteSector s = .next t ∧
      (∀ c : Sector, ∃ u, exec .wrBlkCommandReadSector { t with buf := c } = .next u ∧ u.buf = s.buf ∧
        u.error = s.error ∧ u.answers = rest) ∧
      ∀ (j : Word) (k : Nat), j ≠ s.sectorRegister → k < 512 → (j.toNat + 1) * 512 ≤ s.mediumBytes.len →
        t.mediumBytes.byte? (j.toNat * 512 + k) = s.mediumBytes.byte? (j.toNat * 512 + k)

/-- Persistence (R127, with ATTACH and DETACH as D22 gives them): what a successful `WRITE_SECTOR` wrote is
in the medium after DETACH and is returned by `READ_SECTOR` after a later ATTACH; while detached no
operation but ATTACH changes the medium. -/
def Obligations.MediumPersistsAcrossDetach : Prop :=
  (∀ (s : State) (rest : List Bool), s.busy = false → s.attached = true →
    s.answers = true :: true :: true :: rest →
    ∃ t u, execAll [.wrBlkCommandWriteSector, .detach] s = .next t ∧
      (∀ k < 512, t.mediumBytes.byte? (s.sectorRegister.toNat * 512 + k) = some (sectorByte s.buf k)) ∧
      execAll [.attach, .wrBlkSector s.sectorRegister, .wrBlkCommandReadSector] t = .next u ∧
      u.buf = s.buf) ∧
  (∀ (i : Instr) (s t : State), s.attached = false → i ≠ .attach → exec i s = .next t → t.medium = s.medium)

/-- A successful ATTACH (R120; D22): `attached` is set, the controller's variables are at their reset
values, the buffer unspecified, an existing medium unchanged and a new one empty, `q` and `console`
untouched. -/
def Obligations.AttachOpensTheMedium : Prop :=
  ∀ s : State, s.attached = false → s.nextAnswer = true →
    ∃ (m : Medium) (b : Sector) (a : List Bool) (d : Nat),
      exec .attach s = .next { s with
        attached := true, medium := some m, busy := false, error := false, pendingCount := 0
        sectorRegister := 0#32, dataPointer := 0, buf := b, response := .opened, answers := a, draws := d } ∧
      (s.medium = none → m.len = 0 ∧ ∀ x, m.byte? x = none) ∧ (∀ m', s.medium = some m' → m = m')

/-- The block's side of R121: an ATTACH that fails returns `OpenFailed` to the host and leaves the block
unchanged. -/
def Obligations.FailedAttachChangesNothing : Prop :=
  ∀ s : State, s.attached = false → s.nextAnswer = false →
    ∃ (a : List Bool) (d : Nat),
      exec .attach s = .next { s with response := .failed .openFailed, answers := a, draws := d }

/-- ATTACH while attached has no meaning (R129, U7; D23). -/
def Obligations.AttachWhileAttachedIsRefused : Prop :=
  ∀ s : State, s.attached = true → exec .attach s = .refused .attachWhileAttached

/-- DETACH (R122; D22): a no-op when detached; else `attached` falls, the controller's variables are at
their reset values, the buffer unspecified, and `medium`, `q` and `console` untouched. -/
def Obligations.DetachClosesTheMedium : Prop :=
  ∀ s : State,
    (s.attached = false → exec .detach s = .next { s with response := .nothing }) ∧
    (s.attached = true → ∃ (b : Sector) (d : Nat),
      exec .detach s = .next { s with
        attached := false, busy := false, error := false, pendingCount := 0, sectorRegister := 0#32
        dataPointer := 0, buf := b, response := .nothing, draws := d })

/-- The liberty of R257: DETACH may be performed any number of times with the effect of one, and every byte
the medium held it still holds. -/
def Obligations.DetachIsIdempotent : Prop :=
  ∀ (s : State) (n : Nat),
    execAll (List.replicate (n + 1) .detach) s = exec .detach s ∧
    ∃ t, exec .detach s = .next t ∧ t.attached = false ∧ t.medium = s.medium

/-! ## Keyboard (42_keyboard.md) -/

/-- `RD KEY_STATUS` (R172; D7). -/
def Obligations.KeyStatusReadValue : Prop :=
  ∀ s : State,
    (s.q = [] → exec .rdKeyStatus s = .next { s with response := .data 0#32 }) ∧
    (s.q ≠ [] → exec .rdKeyStatus s = .next { s with response := .data 1#32 })

/-- `RD KEY_DATA` (R171; D8): pops the head; the sentinel, and no change, when empty. -/
def Obligations.KeyDataReadPopsTheHead : Prop :=
  ∀ s : State,
    (s.q = [] → exec .rdKeyData s = .next { s with response := .data 0xFFFFFFFF#32 }) ∧
    (∀ code rest, s.q = code :: rest →
      exec .rdKeyData s = .next { s with q := rest, response := .data code })

/-- `INJECT` (R170; D8): appends, dropping the oldest entry of a full queue; the line is up afterwards. -/
def Obligations.InjectAppendsOrDropsTheOldest : Prop :=
  ∀ (s : State) (code : Word),
    (s.q.length < 16 → exec (.inject code) s = .next { s with q := s.q ++ [code], response := .nothing }) ∧
    (∀ oldest rest, s.q = oldest :: rest → rest.length = 15 →
      exec (.inject code) s = .next { s with q := rest ++ [code], response := .nothing }) ∧
    (∀ t, exec (.inject code) s = .next t → t.irq = true)

/-- The overflow law (R173, an inference of the spec; D8): after any injections the queue holds the last 16
codes of what it held followed by what was injected. -/
def Obligations.QueueKeepsTheLastSixteen : Prop :=
  ∀ (s : State) (codes : List Word), s.q.length ≤ 16 →
    ∃ r : Response, execAll (codes.map .inject) s = .next { s with
      q := (s.q ++ codes).drop ((s.q ++ codes).length - 16), response := r }

/-- The queue drains in order (R173, an inference of the spec; D8): the reads return its codes from the
head, and the sentinel once it is empty. -/
def Obligations.QueueDrainsInOrder : Prop :=
  ∀ (s : State) (n : Nat),
    execAll (List.replicate (n + 1) .rdKeyData) s = .next { s with
      q := s.q.drop (n + 1), response := .data (s.q.getD n 0xFFFFFFFF#32) }

/-! ## Console (43_console.md) -/

/-- `WR CONSOLE_OUT` (R180; D33): one byte, the low 8 bits of the word, is appended to the console. -/
def Obligations.ConsoleWriteEmitsOneByte : Prop :=
  ∀ (s : State) (wdata : Word), ∃ b : Byte,
    exec (.wrConsoleOut wdata) s = .next { s with console := s.console ++ [b], response := .nothing } ∧
    b.toNat = wdata.toNat % 256

/-- R181: a read of `CONSOLE_OUT` returns the sentinel and changes nothing. -/
def Obligations.ConsoleReadReturnsTheSentinel : Prop :=
  ∀ s : State, exec .rdConsoleOut s = .next { s with response := .data 0xFFFFFFFF#32 }

/-- R182: ATTACH and DETACH do not touch the console; only RESET starts it empty; bytes already emitted are
never taken back. -/
def Obligations.ConsoleIsNeverTakenBack : Prop :=
  ∀ (i : Instr) (s t : State), exec i s = .next t →
    (i ≠ .reset → s.console <+: t.console) ∧ (i = .reset → t.console = []) ∧
    (i = .attach ∨ i = .detach → t.console = s.console)

/-- The text of a `PUTS` appears on the console byte for byte, in order (R111, R180; D31, D33). -/
def Obligations.PutsEmitsTheText : Prop :=
  ∀ (s : State) (text : List Byte), ∃ r : Response,
    execAll (Pseudo.puts text).expand s = .next { s with console := s.console ++ text, response := r }

/-- R253: the console and the keyboard need no ATTACH: their operations do the same whatever `attached` is.
-/
def Obligations.ConsoleAndKeyboardNeedNoAttach : Prop :=
  ∀ (i : Instr) (s : State) (b : Bool),
    ((∃ w, i = .wrConsoleOut w) ∨ (∃ w, i = .inject w) ∨ i = .rdKeyStatus ∨ i = .rdKeyData) →
    ∃ t, exec i s = .next t ∧ exec i { s with attached := b } = .next { t with attached := b }

/-! ## Errors, flags and the interrupt line (60_exceptions.md, 10_state.md) -/

/-- R211: no bus operation faults, stalls or is refused; every bus read returns a word and every other
operation of the bus master returns nothing; an error of the store during a dispatched sector command (a host
failure, a sector not inside the medium, no store attached) is captured in `error`; only ATTACH returns an
error kind, `OpenFailed`, to the host. -/
def Obligations.NoBusOperationFaults : Prop :=
  (∀ (i : Instr) (s : State), i.agent = .busMaster →
    ∃ t, exec i s = .next t ∧
      (i.isRead = true → ∃ v, t.response = .data v) ∧ (i.isRead = false → t.response = .nothing)) ∧
  (∀ (i : Instr) (s t : State), SectorCommand i → s.busy = false → ¬ s.StoreOk i → exec i s = .next t →
    t.error = true) ∧
  (∀ (i : Instr) (s t : State) (k : ErrorKind), exec i s = .next t → t.response = .failed k →
    i = .attach ∧ k = .openFailed)

/-- The columns 'set by' and 'cleared by' of R43's flag table, which is complete (D14, D15, D21, D22). `BUSY` is
0 between operations, and a `BUSY` found at 1 (U10, log 23) is cleared where the controller is replaced and
nowhere else. `ERROR` is set by a sector command that fails or finds `BUSY`, `INTERRUPT_PENDING` is counted by
one that succeeds; `ACK_INTERRUPT` and the replacing of the controller clear them. `dataAvailable` is set by
INJECT, cleared by the `KEY_DATA` read that removes the last code and by RESET. -/
def Obligations.FlagTableIsComplete : Prop :=
  ∀ (i : Instr) (s t : State), exec i s = .next t →
    (s.busy = false → t.busy = false) ∧
    (s.busy = true → (t.busy = false ↔ s.ControllerReplaced i t)) ∧
    (s.CommandFails i → t.error = true) ∧
    (s.error = false → t.error = true → s.CommandFails i) ∧
    (i = .wrBlkCommandAckInterrupt ∨ s.ControllerReplaced i t → t.error = false) ∧
    (s.error = true → t.error = false → i = .wrBlkCommandAckInterrupt ∨ s.ControllerReplaced i t) ∧
    (s.CommandSucceeds i → t.pendingCount = min (s.pendingCount + 1) (2 ^ 32 - 1)) ∧
    (i = .wrBlkCommandAckInterrupt → t.pendingCount = s.pendingCount - 1) ∧
    (s.ControllerReplaced i t → t.pendingCount = 0) ∧
    (t.pendingCount ≠ s.pendingCount →
      s.CommandSucceeds i ∨ i = .wrBlkCommandAckInterrupt ∨ s.ControllerReplaced i t) ∧
    ((∃ c, i = .inject c) → t.dataAvailable = true) ∧
    (s.dataAvailable = false → t.dataAvailable = true → ∃ c, i = .inject c) ∧
    (i = .reset ∨ (i = .rdKeyData ∧ s.q.length = 1) → t.dataAvailable = false) ∧
    (s.dataAvailable = true → t.dataAvailable = false → i = .reset ∨ (i = .rdKeyData ∧ s.q.length = 1))

/-- R215: the line is true exactly while a completion is unacknowledged or the queue holds a code; `error`
and everything else is no term. -/
def Obligations.InterruptLineIsTheOrOfTwoLevels : Prop :=
  ∀ s : State,
    (s.irq = true ↔ 0 < s.pendingCount ∨ s.q ≠ []) ∧
    ∀ s' : State, s'.pendingCount = s.pendingCount → s'.q = s.q → s'.irq = s.irq

/-- What raises and what lowers the line (R216, R217; D14, D21, D22, D25). INJECT and every sector command that
succeeds leave it up, and nothing else raises it; a sector command that fails leaves it as it was. It falls
exactly at the acknowledgment of the last completion with the queue empty, at the read of the last code with no
completion pending, at RESET, and where ATTACH or DETACH replaces the controller with the queue empty. -/
def Obligations.InterruptLineRisesAndFalls : Prop :=
  ∀ (i : Instr) (s t : State), exec i s = .next t →
    ((∃ c, i = .inject c) ∨ s.CommandSucceeds i → t.irq = true) ∧
    (s.irq = false → t.irq = true → (∃ c, i = .inject c) ∨ s.CommandSucceeds i) ∧
    (s.CommandFails i → t.irq = s.irq) ∧
    (s.irq = true → (t.irq = false ↔
      (i = .wrBlkCommandAckInterrupt ∧ s.pendingCount = 1 ∧ s.q = []) ∨
      (i = .rdKeyData ∧ s.pendingCount = 0 ∧ s.q.length = 1) ∨ i = .reset ∨
      (s.ControllerReplaced i t ∧ s.q = [])))

/-! ## Frames -/

/-- An operation other than the two data stores and the four that leave the buffer unspecified or filled
changes no byte of the buffer; an operation other than `WRITE_SECTOR` changes no byte of the medium. -/
def Obligations.OnlyStoresChangeBytes : Prop :=
  ∀ (i : Instr) (s t : State), exec i s = .next t →
    ((∀ w, i ≠ .wrBlkData w) → i ≠ .wrBlkCommandReadSector → i ≠ .attach → i ≠ .detach → i ≠ .reset →
      ∀ k, sectorByte t.buf k = sectorByte s.buf k) ∧
    (i ≠ .wrBlkCommandWriteSector → ∀ x, t.mediumBytes.byte? x = s.mediumBytes.byte? x)

/-- `attached` changes by ATTACH, DETACH and RESET alone (R40, R128; that RESET clears it is R250 and D24).
-/
def Obligations.OnlyTheHostAttaches : Prop :=
  ∀ (i : Instr) (s t : State), exec i s = .next t → t.attached ≠ s.attached →
    (i = .attach ∧ t.attached = true ∧ t.response = .opened) ∨
    ((i = .detach ∨ i = .reset) ∧ t.attached = false)

/-- An operation leaves the agents' other operations waiting as they were, and uses up at most one answer of
the medium environment (R77, R126; the two fields are the model's own, log 1, log 4). -/
def Obligations.OperationsLeaveTheAgentsSequence : Prop :=
  ∀ (i : Instr) (s t : State), exec i s = .next t →
    t.ops = s.ops ∧ (t.answers = s.answers ∨ t.answers = s.answers.tail) ∧ s.draws ≤ t.draws

/-! ## Reset and invariants (10_state.md, 70_reset_and_hazards.md) -/

/-- The operation RESET (R250, R50; D24, and for an attached block U8, log 10): every variable at its reset
value, the buffer unspecified, the medium kept. -/
def Obligations.ResetOperation : Prop :=
  ∀ s : State, ∃ (b : Sector) (d : Nat),
    exec .reset s = .next { s with
      busy := false, error := false, pendingCount := 0, sectorRegister := 0#32, dataPointer := 0, buf := b
      q := [], console := [], attached := false, response := .nothing, draws := d }

/-- The state after reset (R50; D24): the values of the variables, of the line, and of the two status registers. -/
def Obligations.StateAfterReset : Prop :=
  State.reset.busy = false ∧ State.reset.error = false ∧ State.reset.pendingCount = 0 ∧
  State.reset.sectorRegister = 0#32 ∧ State.reset.dataPointer = 0 ∧ State.reset.q = [] ∧
  State.reset.console = [] ∧ State.reset.attached = false ∧ State.reset.irq = false ∧
  exec .rdBlkStatus State.reset = .next { State.reset with response := .data 0#32 } ∧
  exec .rdKeyStatus State.reset = .next { State.reset with response := .data 0#32 }

/-- I1 to I5 and the medium's canonical form hold after reset (R46, an inference of the spec). -/
def Obligations.InvariantsHoldAtReset : Prop := State.reset.Inv Config.params

/-- Every step keeps I1 to I5 and the medium's canonical form (R46, an inference of the spec). -/
def Obligations.StepKeepsTheInvariants : Prop :=
  ∀ s t : State, s.Inv Config.params → step s = .next t → t.Inv Config.params
end

