-- ==== Sys2Proof/Laws/Decode.lean ====
section
/-! SUPPORT. The fields of a packed operation word, and the word of its fields. -/

namespace Sys2Proof

variable (kind : BitVec 3) (we : Bool) (addr data : Word)

@[simp] theorem opKind_packOp : opKind (packOp kind we addr data) = kind := by
  ext k hk
  simp only [opKind, packOp, BitVec.getElem_extractLsb', BitVec.getLsbD_append]
  simp [show ¬ (65 + k < 1 + (32 + 32)) by omega, show 65 + k - (1 + (32 + 32)) = k by omega, hk]

@[simp] theorem opWe_packOp : opWe (packOp kind we addr data) = we := by
  simp only [opWe, packOp, BitVec.getLsbD_append]
  simp

@[simp] theorem opAddr_packOp : opAddr (packOp kind we addr data) = addr := by
  ext k hk
  simp only [opAddr, packOp, BitVec.getElem_extractLsb', BitVec.getLsbD_append]
  simp [show 32 + k < 1 + (32 + 32) by omega, show 32 + k < 32 + 32 by omega, hk]

@[simp] theorem opData_packOp : opData (packOp kind we addr data) = data := by
  ext k hk
  simp only [opData, packOp, BitVec.getElem_extractLsb', BitVec.getLsbD_append]
  simp [show k < 1 + (32 + 32) by omega, show k < 32 + 32 by omega, hk]

/-- An operation word is the word of its fields (R90). -/
theorem packOp_fields (w : OpWord) : packOp (opKind w) (opWe w) (opAddr w) (opData w) = w := by
  ext k hk
  rw [← BitVec.getLsbD_eq_getElem, ← BitVec.getLsbD_eq_getElem]
  simp only [packOp, opKind, opWe, opAddr, opData, BitVec.getLsbD_append, BitVec.getLsbD_extractLsb',
    BitVec.getLsbD_ofBool]
  by_cases h1 : k < 32
  · simp [h1, show k < 1 + (32 + 32) by omega, show k < 32 + 32 by omega]
  · by_cases h2 : k < 64
    · simp [h1, h2, show k < 1 + (32 + 32) by omega, show k - 32 < 32 by omega,
        show 32 + (k - 32) = k by omega]
    · by_cases h3 : k = 64
      · subst h3; simp
      · simp [show ¬ k < 1 + (32 + 32) by omega, show k - (1 + (32 + 32)) < 3 by omega,
          show 65 + (k - (1 + (32 + 32))) = k by omega]

/-- Packed words are equal exactly when their fields are. -/
theorem packOp_inj (k k' : BitVec 3) (we we' : Bool) (a a' d d' : Word) :
    packOp k we a d = packOp k' we' a' d' ↔ k = k' ∧ we = we' ∧ a = a' ∧ d = d' := by
  refine ⟨fun h => ?_, by rintro ⟨rfl, rfl, rfl, rfl⟩; rfl⟩
  have h1 := congrArg opKind h
  have h2 := congrArg opWe h
  have h3 := congrArg opAddr h
  have h4 := congrArg opData h
  simp only [opKind_packOp, opWe_packOp, opAddr_packOp, opData_packOp] at h1 h2 h3 h4
  exact ⟨h1, h2, h3, h4⟩

/-- A mask acts on each field. -/
theorem packOp_and (k k' : BitVec 3) (we we' : Bool) (a a' d d' : Word) :
    packOp k we a d &&& packOp k' we' a' d' = packOp (k &&& k') (we && we') (a &&& a') (d &&& d') := by
  ext i hi
  rw [← BitVec.getLsbD_eq_getElem, ← BitVec.getLsbD_eq_getElem]
  simp only [packOp, BitVec.getLsbD_append, BitVec.getLsbD_and, BitVec.getLsbD_ofBool]
  split
  · split
    · split <;> rfl
    · cases we <;> cases we' <;> simp
  · rfl

end Sys2Proof
end

