-- ==== Sys2Proof/Laws/Memory.lean ====
section
/-! SUPPORT. The medium's bytes: what a byte reads as after each memory operation, and that every memory
operation keeps the canonical form. -/

namespace Sys2Proof.Machine

/-! ## Reading a byte -/

@[simp] theorem Memory.byte_nil (x : Nat) : Memory.byte [] x = unlistedByte := rfl

theorem Memory.byte_cons (k : Nat) (b : Byte) (rest : Memory) (x : Nat) :
    Memory.byte ((k, b) :: rest) x = if k = x then b else Memory.byte rest x := rfl

/-- An address that no cell lists reads as unlisted. -/
theorem Memory.byte_unlisted (m : Memory) (x : Nat) (h : ∀ c ∈ m, c.1 ≠ x) :
    m.byte x = unlistedByte := by
  induction m with
  | nil => rfl
  | cons c rest ih =>
    obtain ⟨k, b⟩ := c
    rw [Memory.byte_cons, if_neg (h (k, b) (by simp))]
    exact ih fun c hc => h c (by simp [hc])

theorem Memory.byte_append_left (m n : Memory) (x : Nat) (h : ∀ c ∈ n, c.1 ≠ x) :
    Memory.byte (m ++ n) x = m.byte x := by
  induction m with
  | nil => simpa using Memory.byte_unlisted n x h
  | cons c rest ih =>
    obtain ⟨k, b⟩ := c
    simp only [List.cons_append, Memory.byte_cons, ih]

theorem Memory.byte_append_right (m n : Memory) (x : Nat) (h : ∀ c ∈ m, c.1 ≠ x) :
    Memory.byte (m ++ n) x = n.byte x := by
  induction m with
  | nil => rfl
  | cons c rest ih =>
    obtain ⟨k, b⟩ := c
    rw [List.cons_append, Memory.byte_cons, if_neg (h (k, b) (by simp))]
    exact ih fun c hc => h c (by simp [hc])

/-- Filtering by address keeps the bytes at the addresses kept. -/
theorem Memory.byte_filter (m : Memory) (p : Nat → Bool) (x : Nat) (h : p x = true) :
    Memory.byte (m.filter fun c => p c.1) x = m.byte x := by
  induction m with
  | nil => rfl
  | cons c rest ih =>
    obtain ⟨k, b⟩ := c
    by_cases hk : k = x
    · subst hk; simp [h, Memory.byte_cons]
    · by_cases hp : p k <;> simp [hp, Memory.byte_cons, hk, ih]

theorem cellsOf_mem (a : Nat) (bytes : List Byte) :
    ∀ c ∈ cellsOf a bytes, a ≤ c.1 ∧ c.1 < a + bytes.length ∧ c.2 ≠ unlistedByte := by
  induction bytes generalizing a with
  | nil => simp [cellsOf]
  | cons b rest ih =>
    intro c hc
    rw [cellsOf] at hc
    split at hc
    · obtain ⟨h1, h2, h3⟩ := ih (a + 1) c hc
      exact ⟨by omega, by simp only [List.length_cons]; omega, h3⟩
    · rcases List.mem_cons.mp hc with rfl | hc
      · exact ⟨Nat.le_refl _, by simp, by assumption⟩
      · obtain ⟨h1, h2, h3⟩ := ih (a + 1) c hc
        exact ⟨by omega, by simp only [List.length_cons]; omega, h3⟩

theorem cellsOf_byte (a : Nat) (bytes : List Byte) (x : Nat) (h1 : a ≤ x) (h2 : x < a + bytes.length) :
    (cellsOf a bytes).byte x = bytes[x - a]'(by omega) := by
  induction bytes generalizing a with
  | nil => simp at h2; omega
  | cons b rest ih =>
    simp only [List.length_cons] at h2
    rw [cellsOf]
    by_cases hx : x = a
    · subst hx
      split
      · rw [Memory.byte_unlisted]
        · simp_all
        · intro c hc
          have := cellsOf_mem (x + 1) rest c hc
          omega
      · simp [Memory.byte_cons]
    · have h := ih (a + 1) (by omega) (by omega)
      have e : x - a = (x - (a + 1)) + 1 := by omega
      split
      · rw [h]; simp [e]
      · rw [Memory.byte_cons, if_neg (by omega), h]; simp [e]

/-- A byte after a splice: the stored byte inside the range, the old byte outside it. -/
theorem Memory.byte_splice (m : Memory) (a : Nat) (bytes : List Byte) (x : Nat) :
    (m.splice a bytes).byte x =
      if h : a ≤ x ∧ x < a + bytes.length then bytes[x - a]'(by omega) else m.byte x := by
  have low : ∀ c ∈ m.filter (fun c => decide (c.1 < a)), c.1 < a := by
    intro c hc; simpa using (List.mem_filter.mp hc).2
  have high : ∀ c ∈ m.filter (fun c => decide (a + bytes.length ≤ c.1)), a + bytes.length ≤ c.1 := by
    intro c hc; simpa using (List.mem_filter.mp hc).2
  unfold Memory.splice
  split
  · next h =>
    rw [Memory.byte_append_left _ _ x (fun c hc => by have := high c hc; omega),
      Memory.byte_append_right _ _ x (fun c hc => by have := low c hc; omega),
      cellsOf_byte a bytes x h.1 h.2]
  · next h =>
    by_cases hx : x < a
    · rw [Memory.byte_append_left _ _ x (fun c hc => by have := high c hc; omega),
        Memory.byte_append_left _ _ x (fun c hc => by have := cellsOf_mem a bytes c hc; omega)]
      exact Memory.byte_filter m (fun k => decide (k < a)) x (by simpa using hx)
    · rw [Memory.byte_append_right]
      · exact Memory.byte_filter m (fun k => decide (a + bytes.length ≤ k)) x (by simp; omega)
      · intro c hc
        rcases List.mem_append.mp hc with hc | hc
        · have := low c hc; omega
        · have := cellsOf_mem a bytes c hc; omega

/-! ## The canonical form -/

theorem cellsOf_sorted (a : Nat) (bytes : List Byte) :
    (cellsOf a bytes).Pairwise (fun c d => c.1 < d.1) := by
  induction bytes generalizing a with
  | nil => simp [cellsOf]
  | cons b rest ih =>
    rw [cellsOf]
    split
    · exact ih (a + 1)
    · refine List.pairwise_cons.mpr ⟨fun c hc => ?_, ih (a + 1)⟩
      have := cellsOf_mem (a + 1) rest c hc
      simp only; omega

/-- A splice keeps the canonical form. -/
theorem Memory.splice_wf (m : Memory) (a : Nat) (bytes : List Byte) (h : m.Wf) :
    (m.splice a bytes).Wf := by
  obtain ⟨hs, hn⟩ := h
  refine ⟨?_, ?_⟩
  · unfold Memory.splice
    rw [List.pairwise_append, List.pairwise_append]
    refine ⟨⟨hs.filter _, cellsOf_sorted a bytes, ?_⟩, hs.filter _, ?_⟩
    · intro c hc d hd
      have h1 : c.1 < a := by simpa using (List.mem_filter.mp hc).2
      have h2 := cellsOf_mem a bytes d hd
      omega
    · intro c hc d hd
      have h2 : a + bytes.length ≤ d.1 := by simpa using (List.mem_filter.mp hd).2
      rcases List.mem_append.mp hc with hc | hc
      · have h1 : c.1 < a := by simpa using (List.mem_filter.mp hc).2
        omega
      · have h1 := cellsOf_mem a bytes c hc
        omega
  · intro c hc
    unfold Memory.splice at hc
    rcases List.mem_append.mp hc with hc | hc
    · rcases List.mem_append.mp hc with hc | hc
      · exact hn c (List.mem_filter.mp hc).1
      · exact (cellsOf_mem a bytes c hc).2.2
    · exact hn c (List.mem_filter.mp hc).1

/-- Where the cells of a splice stand. -/
theorem Memory.splice_mem (m : Memory) (a : Nat) (bytes : List Byte) :
    ∀ c ∈ m.splice a bytes, c ∈ m ∨ (a ≤ c.1 ∧ c.1 < a + bytes.length) := by
  intro c hc
  unfold Memory.splice at hc
  rcases List.mem_append.mp hc with hc | hc
  · rcases List.mem_append.mp hc with hc | hc
    · exact .inl (List.mem_filter.mp hc).1
    · have := cellsOf_mem a bytes c hc
      exact .inr ⟨this.1, this.2.1⟩
  · exact .inl (List.mem_filter.mp hc).1

theorem Medium.empty_wf : Medium.empty.Wf := by decide

theorem Medium.extendTo_wf (m : Medium) (n : Nat) (h : m.Wf) : (m.extendTo n).Wf := by
  refine ⟨h.1, fun c hc => ?_⟩
  have := h.2 c hc
  simp only [Medium.extendTo]; omega

theorem Medium.storeSector_wf (m : Medium) (off : Nat) (b : Sector) (h : m.Wf) :
    (m.storeSector off b).Wf := by
  refine ⟨Memory.splice_wf _ _ _ h.1, fun c hc => ?_⟩
  rcases Memory.splice_mem _ _ _ c hc with hc | ⟨_, hc⟩
  · have : c.1 < m.len := h.2 c hc
    simp only [Medium.storeSector, Medium.extendTo]; omega
  · simp only [b.size] at hc
    simp only [Medium.storeSector, Config.sectorSize]; omega

/-- The bounds of the length after a failed write (U3). -/
theorem Medium.failedLength_bounds (m : Medium) (off draw : Nat) :
    m.len ≤ m.failedLength off draw ∧ m.failedLength off draw ≤ max m.len (off + Config.sectorSize) := by
  unfold Medium.failedLength
  have := Nat.mod_lt (Config.freeLength draw) (y := max m.len (off + Config.sectorSize) - m.len + 1)
    (by omega)
  omega

@[simp] theorem freeBytes_length (draw lo n : Nat) : (freeBytes draw lo n).length = n := by
  simp [freeBytes]

theorem Medium.failedStore_wf (m : Medium) (off draw : Nat) (h : m.Wf) : (m.failedStore off draw).Wf := by
  have hb := m.failedLength_bounds off draw
  refine ⟨Memory.splice_wf _ _ _ h.1, fun c hc => ?_⟩
  rcases Memory.splice_mem _ _ _ c hc with hc | ⟨_, hc⟩
  · have : c.1 < m.len := h.2 c hc
    simp only [Medium.failedStore]; omega
  · rw [freeBytes_length] at hc
    simp only [Medium.failedStore] at *
    omega

/-- The reset state's medium is canonical. -/
theorem State.reset_mediumBytes_wf : State.reset.mediumBytes.Wf :=
  Medium.empty_wf

/-! ## The medium's bytes -/

/-- A byte of a sector given by its bytes. -/
theorem sectorByte_sectorOf (f : Nat → Byte) (k : Nat) (h : k < 512) : sectorByte (sectorOf f) k = f k := by
  unfold sectorByte sectorOf
  simp [h]

theorem sectorByte_beyond (b : Sector) (k : Nat) (h : 512 ≤ k) : sectorByte b k = 0#8 := by
  simp [sectorByte, b.size, h]

theorem sectorByte_bytes (b : Sector) (k : Nat) (h : k < b.bytes.length) : b.bytes[k] = sectorByte b k := by
  simp [sectorByte, h]

/-- Two sectors with the same bytes are the same. -/
theorem sector_ext (b c : Sector) (h : ∀ k < 512, sectorByte b k = sectorByte c k) : b = c := by
  obtain ⟨bs, hb⟩ := b
  obtain ⟨cs, hc⟩ := c
  congr 1
  refine List.ext_getElem (hb.trans hc.symm) fun k h1 h2 => ?_
  simpa [sectorByte, h1, h2] using h k (hb ▸ h1)

theorem Medium.sectorAt_byte (m : Medium) (off k : Nat) (h : k < 512) :
    sectorByte (m.sectorAt off) k = m.cells.byte (off + k) :=
  sectorByte_sectorOf _ k h

/-- A byte of the medium's cells after a store. -/
theorem Medium.storeSector_byte (m : Medium) (off : Nat) (b : Sector) (x : Nat) :
    (m.storeSector off b).cells.byte x =
      if off ≤ x ∧ x < off + Config.sectorSize then sectorByte b (x - off) else m.cells.byte x := by
  have hl : b.bytes.length = Config.sectorSize := b.size
  simp only [Medium.storeSector, Medium.extendTo, Memory.byte_splice, hl]
  split
  · exact sectorByte_bytes b _ _
  · rfl

@[simp] theorem Medium.storeSector_len (m : Medium) (off : Nat) (b : Sector) :
    (m.storeSector off b).len = max m.len (off + Config.sectorSize) := by
  simp only [Medium.storeSector, Medium.extendTo]; omega

/-- A sector read back from where it was stored is the sector stored. -/
theorem Medium.sectorAt_storeSector (m : Medium) (off : Nat) (b : Sector) :
    (m.storeSector off b).sectorAt off = b := by
  refine sector_ext _ _ fun k hk => ?_
  rw [Medium.sectorAt_byte _ _ _ hk, Medium.storeSector_byte]
  simp [hk, Config.sectorSize]

/-- A byte beyond the end of a canonical medium is listed nowhere. -/
theorem Medium.byte_beyond (m : Medium) (x : Nat) (h : m.Wf) (hx : m.len ≤ x) :
    m.cells.byte x = unlistedByte :=
  Memory.byte_unlisted _ _ fun c hc => by have := h.2 c hc; omega

/-- A byte that a failed write must keep is kept (R124). -/
theorem Medium.failedStore_byte (m : Medium) (off draw x : Nat) (hx : x < m.len)
    (ho : x < off ∨ off + Config.sectorSize ≤ x) :
    (m.failedStore off draw).cells.byte x = m.cells.byte x := by
  simp only [Medium.failedStore, Memory.byte_splice, freeBytes_length]
  rw [dif_neg (by omega)]

end Sys2Proof.Machine
end

