-- ==== Sys2Proof/Laws/State.lean ====
section
/-! SUPPORT. One lemma per field per named update of the state, true by rfl, so that no later proof
unfolds a record update; and what the views of the state depend on. -/

namespace Sys2Proof.Machine

variable (s : State)

/-! ## State.respond -/

@[simp] theorem State.respond_busy (r : Response) : (s.respond r).busy = s.busy := rfl
@[simp] theorem State.respond_error (r : Response) : (s.respond r).error = s.error := rfl
@[simp] theorem State.respond_pendingCount (r : Response) : (s.respond r).pendingCount = s.pendingCount := rfl
@[simp] theorem State.respond_sectorRegister (r : Response) : (s.respond r).sectorRegister = s.sectorRegister := rfl
@[simp] theorem State.respond_dataPointer (r : Response) : (s.respond r).dataPointer = s.dataPointer := rfl
@[simp] theorem State.respond_buf (r : Response) : (s.respond r).buf = s.buf := rfl
@[simp] theorem State.respond_q (r : Response) : (s.respond r).q = s.q := rfl
@[simp] theorem State.respond_console (r : Response) : (s.respond r).console = s.console := rfl
@[simp] theorem State.respond_attached (r : Response) : (s.respond r).attached = s.attached := rfl
@[simp] theorem State.respond_medium (r : Response) : (s.respond r).medium = s.medium := rfl
@[simp] theorem State.respond_response (r : Response) : (s.respond r).response = r := rfl
@[simp] theorem State.respond_ops (r : Response) : (s.respond r).ops = s.ops := rfl
@[simp] theorem State.respond_answers (r : Response) : (s.respond r).answers = s.answers := rfl
@[simp] theorem State.respond_draws (r : Response) : (s.respond r).draws = s.draws := rfl

/-! ## State.takeAnswer -/

@[simp] theorem State.takeAnswer_busy : (s.takeAnswer).busy = s.busy := rfl
@[simp] theorem State.takeAnswer_error : (s.takeAnswer).error = s.error := rfl
@[simp] theorem State.takeAnswer_pendingCount : (s.takeAnswer).pendingCount = s.pendingCount := rfl
@[simp] theorem State.takeAnswer_sectorRegister : (s.takeAnswer).sectorRegister = s.sectorRegister := rfl
@[simp] theorem State.takeAnswer_dataPointer : (s.takeAnswer).dataPointer = s.dataPointer := rfl
@[simp] theorem State.takeAnswer_buf : (s.takeAnswer).buf = s.buf := rfl
@[simp] theorem State.takeAnswer_q : (s.takeAnswer).q = s.q := rfl
@[simp] theorem State.takeAnswer_console : (s.takeAnswer).console = s.console := rfl
@[simp] theorem State.takeAnswer_attached : (s.takeAnswer).attached = s.attached := rfl
@[simp] theorem State.takeAnswer_medium : (s.takeAnswer).medium = s.medium := rfl
@[simp] theorem State.takeAnswer_response : (s.takeAnswer).response = s.response := rfl
@[simp] theorem State.takeAnswer_ops : (s.takeAnswer).ops = s.ops := rfl
@[simp] theorem State.takeAnswer_answers : (s.takeAnswer).answers = s.answers.tail := rfl
@[simp] theorem State.takeAnswer_draws : (s.takeAnswer).draws = if s.answers.isEmpty then s.draws + 1 else s.draws := rfl

/-! ## State.forgetBuf -/

@[simp] theorem State.forgetBuf_busy : (s.forgetBuf).busy = s.busy := rfl
@[simp] theorem State.forgetBuf_error : (s.forgetBuf).error = s.error := rfl
@[simp] theorem State.forgetBuf_pendingCount : (s.forgetBuf).pendingCount = s.pendingCount := rfl
@[simp] theorem State.forgetBuf_sectorRegister : (s.forgetBuf).sectorRegister = s.sectorRegister := rfl
@[simp] theorem State.forgetBuf_dataPointer : (s.forgetBuf).dataPointer = s.dataPointer := rfl
@[simp] theorem State.forgetBuf_buf : (s.forgetBuf).buf = Config.freeSector s.draws := rfl
@[simp] theorem State.forgetBuf_q : (s.forgetBuf).q = s.q := rfl
@[simp] theorem State.forgetBuf_console : (s.forgetBuf).console = s.console := rfl
@[simp] theorem State.forgetBuf_attached : (s.forgetBuf).attached = s.attached := rfl
@[simp] theorem State.forgetBuf_medium : (s.forgetBuf).medium = s.medium := rfl
@[simp] theorem State.forgetBuf_response : (s.forgetBuf).response = s.response := rfl
@[simp] theorem State.forgetBuf_ops : (s.forgetBuf).ops = s.ops := rfl
@[simp] theorem State.forgetBuf_answers : (s.forgetBuf).answers = s.answers := rfl
@[simp] theorem State.forgetBuf_draws : (s.forgetBuf).draws = s.draws + 1 := rfl

/-! ## State.resetController -/

@[simp] theorem State.resetController_busy : (s.resetController).busy = false := rfl
@[simp] theorem State.resetController_error : (s.resetController).error = false := rfl
@[simp] theorem State.resetController_pendingCount : (s.resetController).pendingCount = 0 := rfl
@[simp] theorem State.resetController_sectorRegister : (s.resetController).sectorRegister = 0#32 := rfl
@[simp] theorem State.resetController_dataPointer : (s.resetController).dataPointer = 0 := rfl
@[simp] theorem State.resetController_buf : (s.resetController).buf = Config.freeSector s.draws := rfl
@[simp] theorem State.resetController_q : (s.resetController).q = s.q := rfl
@[simp] theorem State.resetController_console : (s.resetController).console = s.console := rfl
@[simp] theorem State.resetController_attached : (s.resetController).attached = s.attached := rfl
@[simp] theorem State.resetController_medium : (s.resetController).medium = s.medium := rfl
@[simp] theorem State.resetController_response : (s.resetController).response = s.response := rfl
@[simp] theorem State.resetController_ops : (s.resetController).ops = s.ops := rfl
@[simp] theorem State.resetController_answers : (s.resetController).answers = s.answers := rfl
@[simp] theorem State.resetController_draws : (s.resetController).draws = s.draws + 1 := rfl

/-! ## State.beginDispatch -/

@[simp] theorem State.beginDispatch_busy : (s.beginDispatch).busy = true := rfl
@[simp] theorem State.beginDispatch_error : (s.beginDispatch).error = s.error := rfl
@[simp] theorem State.beginDispatch_pendingCount : (s.beginDispatch).pendingCount = s.pendingCount := rfl
@[simp] theorem State.beginDispatch_sectorRegister : (s.beginDispatch).sectorRegister = s.sectorRegister := rfl
@[simp] theorem State.beginDispatch_dataPointer : (s.beginDispatch).dataPointer = 0 := rfl
@[simp] theorem State.beginDispatch_buf : (s.beginDispatch).buf = s.buf := rfl
@[simp] theorem State.beginDispatch_q : (s.beginDispatch).q = s.q := rfl
@[simp] theorem State.beginDispatch_console : (s.beginDispatch).console = s.console := rfl
@[simp] theorem State.beginDispatch_attached : (s.beginDispatch).attached = s.attached := rfl
@[simp] theorem State.beginDispatch_medium : (s.beginDispatch).medium = s.medium := rfl
@[simp] theorem State.beginDispatch_response : (s.beginDispatch).response = s.response := rfl
@[simp] theorem State.beginDispatch_ops : (s.beginDispatch).ops = s.ops := rfl
@[simp] theorem State.beginDispatch_answers : (s.beginDispatch).answers = s.answers := rfl
@[simp] theorem State.beginDispatch_draws : (s.beginDispatch).draws = s.draws := rfl

/-! ## State.completeCommand -/

@[simp] theorem State.completeCommand_busy (P : Config.Params) : (s.completeCommand P).busy = false := rfl
@[simp] theorem State.completeCommand_error (P : Config.Params) : (s.completeCommand P).error = s.error := rfl
@[simp] theorem State.completeCommand_pendingCount (P : Config.Params) : (s.completeCommand P).pendingCount = min (s.pendingCount + 1) P.pendingMax := rfl
@[simp] theorem State.completeCommand_sectorRegister (P : Config.Params) : (s.completeCommand P).sectorRegister = s.sectorRegister := rfl
@[simp] theorem State.completeCommand_dataPointer (P : Config.Params) : (s.completeCommand P).dataPointer = s.dataPointer := rfl
@[simp] theorem State.completeCommand_buf (P : Config.Params) : (s.completeCommand P).buf = s.buf := rfl
@[simp] theorem State.completeCommand_q (P : Config.Params) : (s.completeCommand P).q = s.q := rfl
@[simp] theorem State.completeCommand_console (P : Config.Params) : (s.completeCommand P).console = s.console := rfl
@[simp] theorem State.completeCommand_attached (P : Config.Params) : (s.completeCommand P).attached = s.attached := rfl
@[simp] theorem State.completeCommand_medium (P : Config.Params) : (s.completeCommand P).medium = s.medium := rfl
@[simp] theorem State.completeCommand_response (P : Config.Params) : (s.completeCommand P).response = s.response := rfl
@[simp] theorem State.completeCommand_ops (P : Config.Params) : (s.completeCommand P).ops = s.ops := rfl
@[simp] theorem State.completeCommand_answers (P : Config.Params) : (s.completeCommand P).answers = s.answers := rfl
@[simp] theorem State.completeCommand_draws (P : Config.Params) : (s.completeCommand P).draws = s.draws := rfl

/-! ## State.failCommand -/

@[simp] theorem State.failCommand_busy : (s.failCommand).busy = false := rfl
@[simp] theorem State.failCommand_error : (s.failCommand).error = true := rfl
@[simp] theorem State.failCommand_pendingCount : (s.failCommand).pendingCount = s.pendingCount := rfl
@[simp] theorem State.failCommand_sectorRegister : (s.failCommand).sectorRegister = s.sectorRegister := rfl
@[simp] theorem State.failCommand_dataPointer : (s.failCommand).dataPointer = s.dataPointer := rfl
@[simp] theorem State.failCommand_buf : (s.failCommand).buf = s.buf := rfl
@[simp] theorem State.failCommand_q : (s.failCommand).q = s.q := rfl
@[simp] theorem State.failCommand_console : (s.failCommand).console = s.console := rfl
@[simp] theorem State.failCommand_attached : (s.failCommand).attached = s.attached := rfl
@[simp] theorem State.failCommand_medium : (s.failCommand).medium = s.medium := rfl
@[simp] theorem State.failCommand_response : (s.failCommand).response = s.response := rfl
@[simp] theorem State.failCommand_ops : (s.failCommand).ops = s.ops := rfl
@[simp] theorem State.failCommand_answers : (s.failCommand).answers = s.answers := rfl
@[simp] theorem State.failCommand_draws : (s.failCommand).draws = s.draws := rfl

/-! ## State.setError -/

@[simp] theorem State.setError_busy : (s.setError).busy = s.busy := rfl
@[simp] theorem State.setError_error : (s.setError).error = true := rfl
@[simp] theorem State.setError_pendingCount : (s.setError).pendingCount = s.pendingCount := rfl
@[simp] theorem State.setError_sectorRegister : (s.setError).sectorRegister = s.sectorRegister := rfl
@[simp] theorem State.setError_dataPointer : (s.setError).dataPointer = s.dataPointer := rfl
@[simp] theorem State.setError_buf : (s.setError).buf = s.buf := rfl
@[simp] theorem State.setError_q : (s.setError).q = s.q := rfl
@[simp] theorem State.setError_console : (s.setError).console = s.console := rfl
@[simp] theorem State.setError_attached : (s.setError).attached = s.attached := rfl
@[simp] theorem State.setError_medium : (s.setError).medium = s.medium := rfl
@[simp] theorem State.setError_response : (s.setError).response = s.response := rfl
@[simp] theorem State.setError_ops : (s.setError).ops = s.ops := rfl
@[simp] theorem State.setError_answers : (s.setError).answers = s.answers := rfl
@[simp] theorem State.setError_draws : (s.setError).draws = s.draws := rfl

/-! ## State.acknowledge -/

@[simp] theorem State.acknowledge_busy : (s.acknowledge).busy = s.busy := rfl
@[simp] theorem State.acknowledge_error : (s.acknowledge).error = false := rfl
@[simp] theorem State.acknowledge_pendingCount : (s.acknowledge).pendingCount = s.pendingCount - 1 := rfl
@[simp] theorem State.acknowledge_sectorRegister : (s.acknowledge).sectorRegister = s.sectorRegister := rfl
@[simp] theorem State.acknowledge_dataPointer : (s.acknowledge).dataPointer = s.dataPointer := rfl
@[simp] theorem State.acknowledge_buf : (s.acknowledge).buf = s.buf := rfl
@[simp] theorem State.acknowledge_q : (s.acknowledge).q = s.q := rfl
@[simp] theorem State.acknowledge_console : (s.acknowledge).console = s.console := rfl
@[simp] theorem State.acknowledge_attached : (s.acknowledge).attached = s.attached := rfl
@[simp] theorem State.acknowledge_medium : (s.acknowledge).medium = s.medium := rfl
@[simp] theorem State.acknowledge_response : (s.acknowledge).response = s.response := rfl
@[simp] theorem State.acknowledge_ops : (s.acknowledge).ops = s.ops := rfl
@[simp] theorem State.acknowledge_answers : (s.acknowledge).answers = s.answers := rfl
@[simp] theorem State.acknowledge_draws : (s.acknowledge).draws = s.draws := rfl

/-! ## State.emit -/

@[simp] theorem State.emit_busy (b : Byte) : (s.emit b).busy = s.busy := rfl
@[simp] theorem State.emit_error (b : Byte) : (s.emit b).error = s.error := rfl
@[simp] theorem State.emit_pendingCount (b : Byte) : (s.emit b).pendingCount = s.pendingCount := rfl
@[simp] theorem State.emit_sectorRegister (b : Byte) : (s.emit b).sectorRegister = s.sectorRegister := rfl
@[simp] theorem State.emit_dataPointer (b : Byte) : (s.emit b).dataPointer = s.dataPointer := rfl
@[simp] theorem State.emit_buf (b : Byte) : (s.emit b).buf = s.buf := rfl
@[simp] theorem State.emit_q (b : Byte) : (s.emit b).q = s.q := rfl
@[simp] theorem State.emit_console (b : Byte) : (s.emit b).console = s.console ++ [b] := rfl
@[simp] theorem State.emit_attached (b : Byte) : (s.emit b).attached = s.attached := rfl
@[simp] theorem State.emit_medium (b : Byte) : (s.emit b).medium = s.medium := rfl
@[simp] theorem State.emit_response (b : Byte) : (s.emit b).response = s.response := rfl
@[simp] theorem State.emit_ops (b : Byte) : (s.emit b).ops = s.ops := rfl
@[simp] theorem State.emit_answers (b : Byte) : (s.emit b).answers = s.answers := rfl
@[simp] theorem State.emit_draws (b : Byte) : (s.emit b).draws = s.draws := rfl

/-! ## State.enqueueKey -/

@[simp] theorem State.enqueueKey_busy (P : Config.Params) (code : Word) : (s.enqueueKey P code).busy = s.busy := rfl
@[simp] theorem State.enqueueKey_error (P : Config.Params) (code : Word) : (s.enqueueKey P code).error = s.error := rfl
@[simp] theorem State.enqueueKey_pendingCount (P : Config.Params) (code : Word) : (s.enqueueKey P code).pendingCount = s.pendingCount := rfl
@[simp] theorem State.enqueueKey_sectorRegister (P : Config.Params) (code : Word) : (s.enqueueKey P code).sectorRegister = s.sectorRegister := rfl
@[simp] theorem State.enqueueKey_dataPointer (P : Config.Params) (code : Word) : (s.enqueueKey P code).dataPointer = s.dataPointer := rfl
@[simp] theorem State.enqueueKey_buf (P : Config.Params) (code : Word) : (s.enqueueKey P code).buf = s.buf := rfl
@[simp] theorem State.enqueueKey_q (P : Config.Params) (code : Word) : (s.enqueueKey P code).q = (if s.q.length = P.keyQueueCapacity then s.q.tail else s.q) ++ [code] := rfl
@[simp] theorem State.enqueueKey_console (P : Config.Params) (code : Word) : (s.enqueueKey P code).console = s.console := rfl
@[simp] theorem State.enqueueKey_attached (P : Config.Params) (code : Word) : (s.enqueueKey P code).attached = s.attached := rfl
@[simp] theorem State.enqueueKey_medium (P : Config.Params) (code : Word) : (s.enqueueKey P code).medium = s.medium := rfl
@[simp] theorem State.enqueueKey_response (P : Config.Params) (code : Word) : (s.enqueueKey P code).response = s.response := rfl
@[simp] theorem State.enqueueKey_ops (P : Config.Params) (code : Word) : (s.enqueueKey P code).ops = s.ops := rfl
@[simp] theorem State.enqueueKey_answers (P : Config.Params) (code : Word) : (s.enqueueKey P code).answers = s.answers := rfl
@[simp] theorem State.enqueueKey_draws (P : Config.Params) (code : Word) : (s.enqueueKey P code).draws = s.draws := rfl

/-! ## State.openMedium -/

@[simp] theorem State.openMedium_busy : (s.openMedium).busy = false := rfl
@[simp] theorem State.openMedium_error : (s.openMedium).error = false := rfl
@[simp] theorem State.openMedium_pendingCount : (s.openMedium).pendingCount = 0 := rfl
@[simp] theorem State.openMedium_sectorRegister : (s.openMedium).sectorRegister = 0#32 := rfl
@[simp] theorem State.openMedium_dataPointer : (s.openMedium).dataPointer = 0 := rfl
@[simp] theorem State.openMedium_buf : (s.openMedium).buf = Config.freeSector s.draws := rfl
@[simp] theorem State.openMedium_q : (s.openMedium).q = s.q := rfl
@[simp] theorem State.openMedium_console : (s.openMedium).console = s.console := rfl
@[simp] theorem State.openMedium_attached : (s.openMedium).attached = true := rfl
@[simp] theorem State.openMedium_medium : (s.openMedium).medium = some s.mediumBytes := rfl
@[simp] theorem State.openMedium_response : (s.openMedium).response = s.response := rfl
@[simp] theorem State.openMedium_ops : (s.openMedium).ops = s.ops := rfl
@[simp] theorem State.openMedium_answers : (s.openMedium).answers = s.answers := rfl
@[simp] theorem State.openMedium_draws : (s.openMedium).draws = s.draws + 1 := rfl

/-! ## State.construct -/

@[simp] theorem State.construct_busy : (s.construct).busy = false := rfl
@[simp] theorem State.construct_error : (s.construct).error = false := rfl
@[simp] theorem State.construct_pendingCount : (s.construct).pendingCount = 0 := rfl
@[simp] theorem State.construct_sectorRegister : (s.construct).sectorRegister = 0#32 := rfl
@[simp] theorem State.construct_dataPointer : (s.construct).dataPointer = 0 := rfl
@[simp] theorem State.construct_buf : (s.construct).buf = Config.freeSector s.draws := rfl
@[simp] theorem State.construct_q : (s.construct).q = [] := rfl
@[simp] theorem State.construct_console : (s.construct).console = [] := rfl
@[simp] theorem State.construct_attached : (s.construct).attached = false := rfl
@[simp] theorem State.construct_medium : (s.construct).medium = s.medium := rfl
@[simp] theorem State.construct_response : (s.construct).response = s.response := rfl
@[simp] theorem State.construct_ops : (s.construct).ops = s.ops := rfl
@[simp] theorem State.construct_answers : (s.construct).answers = s.answers := rfl
@[simp] theorem State.construct_draws : (s.construct).draws = s.draws + 1 := rfl

/-! ## Views -/

@[simp] theorem State.mediumBytes_some (m : Medium) (h : s.medium = some m) : s.mediumBytes = m := by
  simp [State.mediumBytes, h]

@[simp] theorem State.nextAnswer_cons (a : Bool) (rest : List Bool) (h : s.answers = a :: rest) :
    s.nextAnswer = a := by
  simp [State.nextAnswer, h]

@[simp] theorem State.nextAnswer_beginDispatch : s.beginDispatch.nextAnswer = s.nextAnswer := rfl

@[simp] theorem State.mediumBytes_beginDispatch : s.beginDispatch.mediumBytes = s.mediumBytes := rfl

@[simp] theorem State.mediumBytes_takeAnswer : s.takeAnswer.mediumBytes = s.mediumBytes := rfl

@[simp] theorem State.mediumBytes_openMedium : s.openMedium.mediumBytes = s.mediumBytes := rfl

@[simp] theorem State.irq_respond (r : Response) : (s.respond r).irq = s.irq := rfl

theorem State.interruptPendingBit_iff : s.interruptPendingBit = true ↔ 0 < s.pendingCount := by
  simp [State.interruptPendingBit]

theorem State.dataAvailable_iff : s.dataAvailable = true ↔ s.q ≠ [] := by
  simp [State.dataAvailable, List.length_pos_iff]

/-- The line is up exactly when a completion is unacknowledged or the queue holds a code (R215). -/
theorem State.irq_iff : s.irq = true ↔ 0 < s.pendingCount ∨ s.q ≠ [] := by
  simp [State.irq, State.interruptPendingBit, State.dataAvailable, List.length_pos_iff]

theorem State.irq_eq_false_iff : s.irq = false ↔ s.pendingCount = 0 ∧ s.q = [] := by
  rw [← Bool.not_eq_true, State.irq_iff]; simp

theorem State.dataAvailable_eq_false_iff : s.dataAvailable = false ↔ s.q = [] := by
  rw [← Bool.not_eq_true, State.dataAvailable_iff]; simp

/-- The line depends on the count and the queue alone (R215). -/
theorem State.irq_congr (t : State) (hp : t.pendingCount = s.pendingCount) (hq : t.q = s.q) : t.irq = s.irq := by
  simp [State.irq, State.interruptPendingBit, State.dataAvailable, hp, hq]

end Sys2Proof.Machine
end

