-- ==== Sys2Proof/Laws/Ops.lean ====
section
/-! SUPPORT. For each shared operation, once, everything it can do. A later proof cites these and does not
unfold the operation. -/

namespace Sys2Proof.Machine

variable (P : Config.Params) (s : State)

/-! ## Sector primitives -/

theorem State.mediumRead_detached (index : Word) (h : s.attached = false) :
    s.mediumRead P index = (.error .ioFailure, s) := by
  simp [State.mediumRead, h]

theorem State.mediumRead_ok (index : Word) (ha : s.attached = true) (hn : s.nextAnswer = true)
    (hl : sectorOffset index + Config.sectorSize ≤ s.mediumBytes.len) :
    s.mediumRead P index = (.ok (s.mediumBytes.sectorAt (sectorOffset index)), s.takeAnswer) := by
  simp [State.mediumRead, ha, hn, hl]

/-- Without auto-extend, a read that does not succeed only uses up an answer, if it draws one. -/
theorem State.mediumRead_fails (index : Word) (hp : P.autoExtend = false)
    (h : s.attached = false ∨ s.nextAnswer = false ∨
      ¬ sectorOffset index + Config.sectorSize ≤ s.mediumBytes.len) :
    ∃ k u, s.mediumRead P index = (.error k, u) ∧ (u = s ∨ u = s.takeAnswer) := by
  unfold State.mediumRead
  split
  · next ha =>
    split
    · next hn =>
      split
      · next hl => simp_all
      · rw [hp, if_neg Bool.false_ne_true]
        split
        · exact ⟨_, _, rfl, .inr rfl⟩
        · exact ⟨_, _, rfl, .inr rfl⟩
    · exact ⟨_, _, rfl, .inr rfl⟩
  · exact ⟨_, _, rfl, .inl rfl⟩

theorem State.mediumWrite_detached (index : Word) (b : Sector) (h : s.attached = false) :
    s.mediumWrite index b = (.error .ioFailure, s) := by
  simp [State.mediumWrite, h]

theorem State.mediumWrite_ok (index : Word) (b : Sector) (ha : s.attached = true) (hn : s.nextAnswer = true) :
    s.mediumWrite index b =
      (.ok (), { s.takeAnswer with medium := some (s.mediumBytes.storeSector (sectorOffset index) b) }) := by
  simp [State.mediumWrite, ha, hn]

theorem State.mediumWrite_failed (index : Word) (b : Sector) (ha : s.attached = true)
    (hn : s.nextAnswer = false) :
    s.mediumWrite index b = (.error .ioFailure, { s.takeAnswer with
      medium := some (s.mediumBytes.failedStore (sectorOffset index) s.takeAnswer.draws)
      draws := s.takeAnswer.draws + 1 }) := by
  simp [State.mediumWrite, ha, hn]

/-! ## Sector commands -/

theorem State.sectorCommand_busy (f : State → State) (h : s.busy = true) : s.sectorCommand f = s.setError := by
  simp [State.sectorCommand, State.acceptCommand, h]

theorem State.sectorCommand_ready (f : State → State) (h : s.busy = false) : s.sectorCommand f = f s := by
  simp [State.sectorCommand, State.acceptCommand, h]

theorem State.readSector_ok (ha : s.attached = true) (hn : s.nextAnswer = true)
    (hl : sectorOffset s.sectorRegister + Config.sectorSize ≤ s.mediumBytes.len) :
    s.readSector P = { s.beginDispatch.takeAnswer.completeCommand P with
      buf := s.mediumBytes.sectorAt (sectorOffset s.sectorRegister) } := by
  unfold State.readSector
  rw [State.mediumRead_ok P s.beginDispatch s.sectorRegister ha hn hl]
  rfl

/-- A read command that does not succeed (R144): rewound, `error`, the buffer unspecified. -/
theorem State.readSector_fails (hp : P.autoExtend = false)
    (h : s.attached = false ∨ s.nextAnswer = false ∨
      ¬ sectorOffset s.sectorRegister + Config.sectorSize ≤ s.mediumBytes.len) :
    ∃ u, (u = s.beginDispatch ∨ u = s.beginDispatch.takeAnswer) ∧
      s.readSector P = u.failCommand.forgetBuf := by
  obtain ⟨k, u, hk, hu⟩ := State.mediumRead_fails P s.beginDispatch s.sectorRegister hp h
  refine ⟨u, hu, ?_⟩
  unfold State.readSector
  rw [hk]

theorem State.writeSector_ok (ha : s.attached = true) (hn : s.nextAnswer = true) :
    s.writeSector P = State.completeCommand P { s.beginDispatch.takeAnswer with
      medium := some (s.mediumBytes.storeSector (sectorOffset s.sectorRegister) s.buf) } := by
  unfold State.writeSector
  rw [State.mediumWrite_ok s.beginDispatch s.sectorRegister s.buf ha hn]
  rfl

theorem State.writeSector_failed (ha : s.attached = true) (hn : s.nextAnswer = false) :
    s.writeSector P = State.failCommand { s.beginDispatch.takeAnswer with
      medium := some (s.mediumBytes.failedStore (sectorOffset s.sectorRegister) s.takeAnswer.draws)
      draws := s.takeAnswer.draws + 1 } := by
  unfold State.writeSector
  rw [State.mediumWrite_failed s.beginDispatch s.sectorRegister s.buf ha hn]
  rfl

theorem State.writeSector_detached (ha : s.attached = false) :
    s.writeSector P = s.beginDispatch.failCommand := by
  unfold State.writeSector
  rw [State.mediumWrite_detached s.beginDispatch s.sectorRegister s.buf ha]

/-! ## Data port -/

theorem State.dataRead_inside (h : s.dataPointer < Config.sectorSize) :
    s.dataRead P = (bufReadWord P.byteOrder s.buf s.dataPointer,
      { s with dataPointer := s.dataPointer + Config.wordBytes }) := by
  simp [State.dataRead, h]

theorem State.dataRead_exhausted (h : Config.sectorSize ≤ s.dataPointer) :
    s.dataRead P = (Config.sentinel, s) := by
  simp [State.dataRead, Nat.not_lt.mpr h]

theorem State.dataWrite_inside (wdata : Word) (h : s.dataPointer < Config.sectorSize) :
    s.dataWrite P wdata = .ok { s with
      buf := bufWriteWord P.byteOrder s.buf s.dataPointer wdata
      dataPointer := s.dataPointer + Config.wordBytes } := by
  simp [State.dataWrite, h]

theorem State.dataWrite_exhausted (wdata : Word) (h : Config.sectorSize ≤ s.dataPointer) :
    s.dataWrite P wdata = .error .outOfRange := by
  simp [State.dataWrite, Nat.not_lt.mpr h]

/-- A byte of a sector after one byte is replaced. -/
theorem sectorByte_putByte (b : Sector) (p : Nat) (v : Byte) (k : Nat) (hk : k < 512) :
    sectorByte (putByte b p v) k = if p = k then v else sectorByte b k := by
  unfold sectorByte putByte
  by_cases h : p = k
  · subst h; simp [b.size, hk]
  · simp [h]

/-- A byte of the buffer after a word is written (R66). -/
theorem sectorByte_bufWriteWord (o : Config.ByteOrder) (b : Sector) (p : Nat) (w : Word) (k : Nat)
    (hk : k < 512) :
    sectorByte (bufWriteWord o b p w) k =
      if p ≤ k ∧ k < p + 4 then laneByte o w (k - p) else sectorByte b k := by
  unfold bufWriteWord
  simp only [sectorByte_putByte _ _ _ k hk]
  by_cases h3 : p + 3 = k
  · subst h3; simp
  · by_cases h2 : p + 2 = k
    · subst h2; simp
    · by_cases h1 : p + 1 = k
      · subst h1; simp
      · by_cases h0 : p = k
        · subst h0; simp
        · rw [if_neg h3, if_neg h2, if_neg h1, if_neg h0, if_neg (by omega)]

/-! ## Keyboard queue -/

theorem State.dequeueKey_nil (h : s.q = []) : s.dequeueKey = (Config.sentinel, s) := by
  simp [State.dequeueKey, h]

theorem State.dequeueKey_cons (code : Word) (rest : List Word) (h : s.q = code :: rest) :
    s.dequeueKey = (code, { s with q := rest }) := by
  simp [State.dequeueKey, h]

/-! ## Life cycle -/

theorem State.detachMedium_detached (h : s.attached = false) : s.detachMedium = s := by
  simp [State.detachMedium, h]

theorem State.detachMedium_attached (h : s.attached = true) :
    s.detachMedium = State.resetController { s with attached := false } := by
  simp [State.detachMedium, h]

/-- What a reset leaves (R250): it depends on the state only in what it keeps. -/
theorem State.resetBlock_cases : ∃ d, s.resetBlock = State.construct { s with draws := d } := by
  cases h : s.attached with
  | false => exact ⟨s.draws, by rw [State.resetBlock, s.detachMedium_detached h]; rfl⟩
  | true => exact ⟨s.draws + 1, by rw [State.resetBlock, s.detachMedium_attached h]; rfl⟩

theorem State.attachMedium_opened (h : s.nextAnswer = true) :
    s.attachMedium = s.takeAnswer.openMedium.respond .opened := by
  simp [State.attachMedium, h]

theorem State.attachMedium_failed (h : s.nextAnswer = false) :
    s.attachMedium = s.takeAnswer.respond (.failed .openFailed) := by
  simp [State.attachMedium, h]

end Sys2Proof.Machine
end

