-- ==== Sys2Proof/Laws/Exec.lean ====
section
/-! SUPPORT. Everything an operation can do when it answers a next state, said once (exec_performs). A proof
about every operation is a case split on Performs. -/

namespace Sys2Proof.Machine

/-- `Performs s i t`: the operation `i` may take the state `s` to the state `t`, case by case. -/
inductive Performs (s : State) : Instr → State → Prop where
  | rdConsoleOut : Performs s .rdConsoleOut (s.respond (.data Config.sentinel))
  | rdBlkStatus : Performs s .rdBlkStatus (s.respond (.data (s.blkStatus Config.params)))
  | rdBlkCommand : Performs s .rdBlkCommand (s.respond (.data Config.sentinel))
  | rdBlkSector : Performs s .rdBlkSector (s.respond (.data s.sectorRegister))
  | rdBlkDataInside (h : s.dataPointer < 512) :
      Performs s .rdBlkData (State.respond { s with dataPointer := s.dataPointer + 4 }
        (.data (bufReadWord .little s.buf s.dataPointer)))
  | rdBlkDataExhausted (h : 512 ≤ s.dataPointer) :
      Performs s .rdBlkData (s.respond (.data Config.sentinel))
  | rdKeyStatus : Performs s .rdKeyStatus (s.respond (.data (s.keyStatus Config.params)))
  | rdKeyDataEmpty (h : s.q = []) : Performs s .rdKeyData (s.respond (.data Config.sentinel))
  | rdKeyDataPops (code : Word) (rest : List Word) (h : s.q = code :: rest) :
      Performs s .rdKeyData (State.respond { s with q := rest } (.data code))
  | wrConsoleOut (wdata : Word) :
      Performs s (.wrConsoleOut wdata) ((s.emit (consoleByte wdata)).respond .nothing)
  | wrBlkStatus (wdata : Word) : Performs s (.wrBlkStatus wdata) (s.respond .nothing)
  | readBusy (h : s.busy = true) : Performs s .wrBlkCommandReadSector (s.setError.respond .nothing)
  | readOk (h : s.busy = false) (ha : s.attached = true) (hn : s.nextAnswer = true)
      (hl : sectorOffset s.sectorRegister + 512 ≤ s.mediumBytes.len) :
      Performs s .wrBlkCommandReadSector (State.respond
        { s.beginDispatch.takeAnswer.completeCommand Config.params with
          buf := s.mediumBytes.sectorAt (sectorOffset s.sectorRegister) } .nothing)
  | readFails (h : s.busy = false)
      (hf : ¬ (s.attached = true ∧ s.nextAnswer = true ∧
        sectorOffset s.sectorRegister + 512 ≤ s.mediumBytes.len)) (u : State)
      (hu : u = s.beginDispatch ∨ u = s.beginDispatch.takeAnswer) :
      Performs s .wrBlkCommandReadSector (u.failCommand.forgetBuf.respond .nothing)
  | writeBusy (h : s.busy = true) : Performs s .wrBlkCommandWriteSector (s.setError.respond .nothing)
  | writeOk (h : s.busy = false) (ha : s.attached = true) (hn : s.nextAnswer = true) :
      Performs s .wrBlkCommandWriteSector (State.respond (State.completeCommand Config.params
        { s.beginDispatch.takeAnswer with
          medium := some (s.mediumBytes.storeSector (sectorOffset s.sectorRegister) s.buf) }) .nothing)
  | writeFails (h : s.busy = false) (ha : s.attached = true) (hn : s.nextAnswer = false) :
      Performs s .wrBlkCommandWriteSector (State.respond (State.failCommand
        { s.beginDispatch.takeAnswer with
          medium := some (s.mediumBytes.failedStore (sectorOffset s.sectorRegister) s.takeAnswer.draws)
          draws := s.takeAnswer.draws + 1 }) .nothing)
  | writeDetached (h : s.busy = false) (ha : s.attached = false) :
      Performs s .wrBlkCommandWriteSector (s.beginDispatch.failCommand.respond .nothing)
  | acknowledge : Performs s .wrBlkCommandAckInterrupt (s.acknowledge.respond .nothing)
  | malformed (wdata : Word) : Performs s (.wrBlkCommandMalformed wdata) (s.respond .nothing)
  | wrBlkSector (wdata : Word) :
      Performs s (.wrBlkSector wdata) (State.respond { s with sectorRegister := wdata } .nothing)
  | wrBlkDataInside (wdata : Word) (h : s.dataPointer < 512) :
      Performs s (.wrBlkData wdata) (State.respond { s with
        buf := bufWriteWord .little s.buf s.dataPointer wdata, dataPointer := s.dataPointer + 4 } .nothing)
  | wrBlkDataExhausted (wdata : Word) (h : 512 ≤ s.dataPointer) :
      Performs s (.wrBlkData wdata) (s.respond .nothing)
  | wrKeyStatus (wdata : Word) : Performs s (.wrKeyStatus wdata) (s.respond .nothing)
  | wrKeyData (wdata : Word) : Performs s (.wrKeyData wdata) (s.respond .nothing)
  | rdUnmapped (addr : Word) : Performs s (.rdUnmapped addr) (s.respond (.data Config.sentinel))
  | wrUnmapped (addr wdata : Word) : Performs s (.wrUnmapped addr wdata) (s.respond .nothing)
  | inject (code : Word) :
      Performs s (.inject code) ((s.enqueueKey Config.params code).respond .nothing)
  | attachOpened (ha : s.attached = false) (hn : s.nextAnswer = true) :
      Performs s .attach (s.takeAnswer.openMedium.respond .opened)
  | attachFailed (ha : s.attached = false) (hn : s.nextAnswer = false) :
      Performs s .attach (s.takeAnswer.respond (.failed .openFailed))
  | detachClosed (ha : s.attached = false) : Performs s .detach (s.respond .nothing)
  | detachOpen (ha : s.attached = true) :
      Performs s .detach (State.respond (State.resetController { s with attached := false }) .nothing)
  | reset (d : Nat) (hd : s.draws ≤ d) :
      Performs s .reset (State.respond (State.construct { s with draws := d }) .nothing)

/-- What a read command that does not find `busy` set can do. -/
theorem performs_readSector (s : State) :
    Performs s .wrBlkCommandReadSector ((s.sectorCommand (State.readSector Config.params)).respond .nothing) := by
  cases hb : s.busy with
  | true => rw [s.sectorCommand_busy _ hb]; exact .readBusy hb
  | false =>
    rw [s.sectorCommand_ready _ hb]
    by_cases h : s.attached = true ∧ s.nextAnswer = true ∧
        sectorOffset s.sectorRegister + Config.sectorSize ≤ s.mediumBytes.len
    · rw [s.readSector_ok _ h.1 h.2.1 h.2.2]; exact .readOk hb h.1 h.2.1 h.2.2
    · obtain ⟨u, hu, he⟩ := s.readSector_fails Config.params rfl (by
        rcases Bool.eq_false_or_eq_true s.attached with h1 | h1
        · rcases Bool.eq_false_or_eq_true s.nextAnswer with h2 | h2
          · exact .inr (.inr fun h3 => h ⟨h1, h2, h3⟩)
          · exact .inr (.inl h2)
        · exact .inl h1)
      rw [he]; exact .readFails hb h u hu

theorem performs_writeSector (s : State) :
    Performs s .wrBlkCommandWriteSector ((s.sectorCommand (State.writeSector Config.params)).respond .nothing) := by
  cases hb : s.busy with
  | true => rw [s.sectorCommand_busy _ hb]; exact .writeBusy hb
  | false =>
    rw [s.sectorCommand_ready _ hb]
    cases ha : s.attached with
    | false => rw [s.writeSector_detached _ ha]; exact .writeDetached hb ha
    | true =>
      cases hn : s.nextAnswer with
      | true => rw [s.writeSector_ok _ ha hn]; exact .writeOk hb ha hn
      | false => rw [s.writeSector_failed _ ha hn]; exact .writeFails hb ha hn

theorem performs_reset (s : State) : Performs s .reset (s.resetBlock.respond .nothing) := by
  cases ha : s.attached with
  | false => rw [State.resetBlock, s.detachMedium_detached ha]; exact .reset s.draws (Nat.le_refl _)
  | true => rw [State.resetBlock, s.detachMedium_attached ha]; exact .reset (s.draws + 1) (Nat.le_succ _)

/-- Whatever operation answers a next state does one of the things of Performs. -/
theorem exec_performs (i : Instr) (s t : State) (h : exec i s = .next t) : Performs s i t := by
  cases i with
  | rdBlkData =>
    by_cases hd : s.dataPointer < Config.sectorSize
    · simp only [exec, execRdBlkData, s.dataRead_inside _ hd, Host.Outcome.next.injEq] at h
      subst h; exact .rdBlkDataInside hd
    · simp only [exec, execRdBlkData, s.dataRead_exhausted _ (Nat.not_lt.mp hd), Host.Outcome.next.injEq] at h
      subst h; exact .rdBlkDataExhausted (Nat.not_lt.mp hd)
  | wrBlkData wdata =>
    by_cases hd : s.dataPointer < Config.sectorSize
    · simp only [exec, execWrBlkData, s.dataWrite_inside _ _ hd, Host.Outcome.next.injEq] at h
      subst h; exact .wrBlkDataInside wdata hd
    · simp only [exec, execWrBlkData, s.dataWrite_exhausted _ _ (Nat.not_lt.mp hd),
        Host.Outcome.next.injEq] at h
      subst h; exact .wrBlkDataExhausted wdata (Nat.not_lt.mp hd)
  | rdKeyData =>
    cases hq : s.q with
    | nil =>
      simp only [exec, execRdKeyData, s.dequeueKey_nil hq, Host.Outcome.next.injEq] at h
      subst h; exact .rdKeyDataEmpty hq
    | cons code rest =>
      simp only [exec, execRdKeyData, s.dequeueKey_cons _ _ hq, Host.Outcome.next.injEq] at h
      subst h; exact .rdKeyDataPops code rest hq
  | wrBlkCommandReadSector => cases h; exact performs_readSector s
  | wrBlkCommandWriteSector => cases h; exact performs_writeSector s
  | attach =>
    simp only [exec, execAttach] at h
    split at h
    · cases h
    · next ha =>
      have ha : s.attached = false := by simpa using ha
      cases h
      cases hn : s.nextAnswer with
      | true => rw [s.attachMedium_opened hn]; exact .attachOpened ha hn
      | false => rw [s.attachMedium_failed hn]; exact .attachFailed ha hn
  | detach =>
    cases h
    cases ha : s.attached with
    | false => rw [s.detachMedium_detached ha]; exact .detachClosed ha
    | true => rw [s.detachMedium_attached ha]; exact .detachOpen ha
  | reset => cases h; exact performs_reset s
  | rdConsoleOut => cases h; exact .rdConsoleOut
  | rdBlkStatus => cases h; exact .rdBlkStatus
  | rdBlkCommand => cases h; exact .rdBlkCommand
  | rdBlkSector => cases h; exact .rdBlkSector
  | rdKeyStatus => cases h; exact .rdKeyStatus
  | wrConsoleOut wdata => cases h; exact .wrConsoleOut wdata
  | wrBlkStatus wdata => cases h; exact .wrBlkStatus wdata
  | wrBlkCommandAckInterrupt => cases h; exact .acknowledge
  | wrBlkCommandMalformed wdata => cases h; exact .malformed wdata
  | wrBlkSector wdata => cases h; exact .wrBlkSector wdata
  | wrKeyStatus wdata => cases h; exact .wrKeyStatus wdata
  | wrKeyData wdata => cases h; exact .wrKeyData wdata
  | rdUnmapped addr => cases h; exact .rdUnmapped addr
  | wrUnmapped addr wdata => cases h; exact .wrUnmapped addr wdata
  | inject code => cases h; exact .inject code

end Sys2Proof.Machine
end

