-- ==== Sys2Proof/Laws/PerInstr.lean ====
section
/-! SUPPORT. One statement about every operation as syntax, one lemma per constructor: in the encoded word,
every field that is not meaningful is zero (spec/30_encoding.md R90). -/

namespace Sys2Proof.Laws.EncodedFields

/-- R90: a bus read carries no data; an INJECT carries no direction and no address; ATTACH, DETACH and RESET
carry neither of these and no data. -/
def Statement (i : Instr) : Prop :=
  ((opKind (encode i)).toNat = 0 → opWe (encode i) = false → opData (encode i) = 0#32) ∧
  ((opKind (encode i)).toNat ≠ 0 → opWe (encode i) = false ∧ opAddr (encode i) = 0#32) ∧
  (2 ≤ (opKind (encode i)).toNat → opData (encode i) = 0#32)

theorem of_read (i : Instr) (addr : Word) (h : encode i = readWord addr) : Statement i := by
  simp [Statement, h, readWord]

theorem of_write (i : Instr) (addr wdata : Word) (h : encode i = writeWord addr wdata) : Statement i := by
  simp [Statement, h, writeWord]

theorem of_bare (i : Instr) (kind : BitVec 3) (h : encode i = packOp kind false 0#32 0#32) : Statement i := by
  simp [Statement, h]

theorem rdConsoleOut : Statement .rdConsoleOut := of_read _ _ rfl
theorem rdBlkStatus : Statement .rdBlkStatus := of_read _ _ rfl
theorem rdBlkCommand : Statement .rdBlkCommand := of_read _ _ rfl
theorem rdBlkSector : Statement .rdBlkSector := of_read _ _ rfl
theorem rdBlkData : Statement .rdBlkData := of_read _ _ rfl
theorem rdKeyStatus : Statement .rdKeyStatus := of_read _ _ rfl
theorem rdKeyData : Statement .rdKeyData := of_read _ _ rfl
theorem wrConsoleOut (wdata : Word) : Statement (.wrConsoleOut wdata) := of_write _ _ _ rfl
theorem wrBlkStatus (wdata : Word) : Statement (.wrBlkStatus wdata) := of_write _ _ _ rfl
theorem wrBlkCommandReadSector : Statement .wrBlkCommandReadSector := of_write _ _ _ rfl
theorem wrBlkCommandWriteSector : Statement .wrBlkCommandWriteSector := of_write _ _ _ rfl
theorem wrBlkCommandAckInterrupt : Statement .wrBlkCommandAckInterrupt := of_write _ _ _ rfl
theorem wrBlkCommandMalformed (wdata : Word) : Statement (.wrBlkCommandMalformed wdata) := of_write _ _ _ rfl
theorem wrBlkSector (wdata : Word) : Statement (.wrBlkSector wdata) := of_write _ _ _ rfl
theorem wrBlkData (wdata : Word) : Statement (.wrBlkData wdata) := of_write _ _ _ rfl
theorem wrKeyStatus (wdata : Word) : Statement (.wrKeyStatus wdata) := of_write _ _ _ rfl
theorem wrKeyData (wdata : Word) : Statement (.wrKeyData wdata) := of_write _ _ _ rfl
theorem rdUnmapped (addr : Word) : Statement (.rdUnmapped addr) := of_read _ _ rfl
theorem wrUnmapped (addr wdata : Word) : Statement (.wrUnmapped addr wdata) := of_write _ _ _ rfl
theorem inject (code : Word) : Statement (.inject code) := by simp [Statement, encode, encodeWith]
theorem attach : Statement .attach := of_bare _ _ rfl
theorem detach : Statement .detach := of_bare _ _ rfl
theorem reset : Statement .reset := of_bare _ _ rfl

end Sys2Proof.Laws.EncodedFields
end

