-- ==== Sys2Proof/Laws/Safety.lean ====
section
/-! SUPPORT. The terms of Safety.lean in the words of the operations. -/

namespace Sys2Proof.Machine

variable (s : State)

/-- The sector is inside the medium exactly when its bytes, laid out from its offset on, are. -/
theorem State.sectorInside_iff :
    s.SectorInside ↔ sectorOffset s.sectorRegister + Config.sectorSize ≤ s.mediumBytes.len := by
  simp only [State.SectorInside, sectorOffset, Config.sectorSize]; omega

/-- A sector command fails exactly when it does not succeed. -/
theorem State.commandFails_iff (i : Instr) (h : SectorCommand i) :
    s.CommandFails i ↔ ¬ s.CommandSucceeds i := by
  simp only [State.CommandFails, State.CommandSucceeds, h, true_and]
  cases s.busy <;> simp

end Sys2Proof.Machine
end

