-- ==== Sys2Proof/Tests/Slice0.lean ====
section
/-! SUPPORT. The tests: ill-formed operations refused, words written out from the encoding table, one
operation per test with its result from spec/95_test_vectors.md (the vector is named), and for each
obligation with hypotheses a witness that meets them. -/

namespace Sys2Proof.Tests

open Sys2Proof Sys2Proof.Machine

/-! ## Well-formedness: an ill-formed term for each check -/

theorem test_malformed_with_a_command_code_is_ill_formed :
    ¬ (Instr.wrBlkCommandMalformed 3#32).WellFormed Config.params := by decide

theorem test_unmapped_read_of_a_register_is_ill_formed :
    ¬ (Instr.rdUnmapped 0xFFFF0010#32).WellFormed Config.params := by decide

theorem test_unmapped_write_of_a_register_is_ill_formed :
    ¬ (Instr.wrUnmapped 0xFFFF0024#32 7#32).WellFormed Config.params := by decide

/-! ## Decoding: words written out from R90's bit places and R100's rows -/

/-- Kind 0 (67:65), we 0 (64): the four top bits are 0000. -/
theorem test_decode_reads :
    decode 0x0FFFF000400000000#68 = .ok .rdConsoleOut ∧ decode 0x0FFFF001000000000#68 = .ok .rdBlkStatus ∧
    decode 0x0FFFF001400000000#68 = .ok .rdBlkCommand ∧ decode 0x0FFFF001800000000#68 = .ok .rdBlkSector ∧
    decode 0x0FFFF001C00000000#68 = .ok .rdBlkData ∧ decode 0x0FFFF002000000000#68 = .ok .rdKeyStatus ∧
    decode 0x0FFFF002400000000#68 = .ok .rdKeyData ∧
    decode 0x0FFFF001200000000#68 = .ok (.rdUnmapped 0xFFFF0012#32) := by decide

/-- Kind 0, we 1: the four top bits are 0001. -/
theorem test_decode_writes :
    decode 0x1FFFF000400000068#68 = .ok (.wrConsoleOut 0x68#32) ∧
    decode 0x1FFFF001000000007#68 = .ok (.wrBlkStatus 7#32) ∧
    decode 0x1FFFF0018FFFFFFFF#68 = .ok (.wrBlkSector 0xFFFFFFFF#32) ∧
    decode 0x1FFFF001CAAAAAAAA#68 = .ok (.wrBlkData 0xAAAAAAAA#32) ∧
    decode 0x1FFFF002000000000#68 = .ok (.wrKeyStatus 0#32) ∧
    decode 0x1FFFF002400000055#68 = .ok (.wrKeyData 0x55#32) ∧
    decode 0x1FFFF002800000000#68 = .ok (.wrUnmapped 0xFFFF0028#32 0#32) := by decide

/-- The command space: the whole written word is compared (R96). -/
theorem test_decode_commands :
    decode 0x1FFFF001400000001#68 = .ok .wrBlkCommandReadSector ∧
    decode 0x1FFFF001400000002#68 = .ok .wrBlkCommandWriteSector ∧
    decode 0x1FFFF001400000003#68 = .ok .wrBlkCommandAckInterrupt ∧
    decode 0x1FFFF001400000000#68 = .ok (.wrBlkCommandMalformed 0#32) ∧
    decode 0x1FFFF001400000004#68 = .ok (.wrBlkCommandMalformed 4#32) ∧
    decode 0x1FFFF001480000001#68 = .ok (.wrBlkCommandMalformed 0x80000001#32) := by decide

/-- Kinds 1 to 4: the four top bits are 0010 (or 0011), 0100, 0110, 1000. -/
theorem test_decode_other_agents :
    decode 0x2000000000000001C#68 = .ok (.inject 0x1C#32) ∧ decode 0x3000000000000001C#68 = .ok (.inject 0x1C#32) ∧
    decode 0x40000000000000000#68 = .ok .attach ∧ decode 0x60000000000000000#68 = .ok .detach ∧
    decode 0x80000000000000000#68 = .ok .reset := by decide

/-- Kinds 5, 6 and 7 spell no operation (U5). -/
theorem test_decode_no_operation :
    decode 0xA0000000000000000#68 = .error (.noOperation 5#3) ∧
    decode 0xC0000000000000000#68 = .error (.noOperation 6#3) ∧
    decode 0xE0000000000000000#68 = .error (.noOperation 7#3) := by decide

theorem test_table_word : decodeTableWord 68 0x1FFFF001800000003 = some (.wrBlkSector 3#32) ∧
    decodeTableWord 72 0x100000000000000000 = none := by decide

/-! ## Small states -/

/-- The pattern of spec/95_test_vectors.md: byte `k` is `k mod 256`. -/
def pat : Sector := sectorOf fun k => BitVec.ofNat 8 k

/-- After reset, with a known buffer. -/
def idle : State := { State.reset with buf := pat }

/-- 2048 bytes, all zero but byte 1536, the first of sector 3. -/
def medium3 : Medium := ⟨[(1536, 0xAA#8)], 2048⟩

/-- Attached, four operations of the medium environment answered with success. -/
def opened3 : State :=
  { idle with attached := true, medium := some medium3, answers := [true, true, true, true] }

/-- After reset, detached, the next open answered as given. -/
def opening (answer : Bool) : State := { idle with answers := [answer] }

/-- `opened3` with sector 3 selected. -/
def sector3 : State := { opened3 with sectorRegister := 3#32 }

/-- `sector3`, the next sector operation answered with failure. -/
def failing3 : State := { sector3 with answers := [false] }

/-- The launch state of vector S3. -/
def busy7 : State := { opened3 with busy := true, sectorRegister := 7#32, dataPointer := 12 }

/-- A queue of `n` codes, 1 to `n`. -/
def queueOf (n : Nat) : State := { idle with q := (List.range n).map fun k => BitVec.ofNat 32 (k + 1) }

/-- A field of the next state, if there is one. -/
def field {α : Type} (f : State → α) (i : Instr) (s : State) : Option α :=
  match exec i s with
  | .next t => some (f t)
  | .fault _ => none
  | .refused _ => none

/-! ## Behaviour, one operation each -/

/-- V-DEC-12, V-DEC-8, V-DEC-1. -/
theorem test_reads_without_a_value :
    field State.response .rdConsoleOut idle = some (.data 0xFFFFFFFF#32) ∧
    field State.response .rdBlkCommand idle = some (.data 0xFFFFFFFF#32) ∧
    field State.response (.rdUnmapped 0xFFFF0000#32) idle = some (.data 0xFFFFFFFF#32) := by decide

/-- V-BLK-15: one completion and one failure read as 6. -/
theorem test_status_shows_error_and_pending :
    field State.response .rdBlkStatus { idle with error := true, pendingCount := 1 } = some (.data 6#32) := by
  decide

/-- S3 step 3: busy and error. -/
theorem test_status_shows_busy :
    field State.response .rdBlkStatus { idle with busy := true, error := true } = some (.data 3#32) := by decide

/-- V-BLK-2. -/
theorem test_sector_register_takes_any_value :
    field State.sectorRegister (.wrBlkSector 0xFFFFFFFF#32) idle = some 0xFFFFFFFF#32 ∧
    field State.response .rdBlkSector { idle with sectorRegister := 0xFFFFFFFF#32 } =
      some (.data 0xFFFFFFFF#32) := by decide

/-- S3 step 8: word 3 of the pattern, with `busy` set. -/
theorem test_data_read_is_little_endian :
    field State.response .rdBlkData busy7 = some (.data 0x0F0E0D0C#32) ∧
    field State.dataPointer .rdBlkData busy7 = some 16 := by decide +kernel

/-- V-BLK-27. -/
theorem test_data_read_past_the_end :
    field State.response .rdBlkData { idle with dataPointer := 512 } = some (.data 0xFFFFFFFF#32) ∧
    field State.dataPointer .rdBlkData { idle with dataPointer := 512 } = some 512 := by decide

/-- V-BLK-25: the last word of the buffer. -/
theorem test_data_write_at_508 :
    field (fun t => (sectorByte t.buf 507, sectorByte t.buf 508, sectorByte t.buf 511, t.dataPointer))
      (.wrBlkData 0x01020304#32) { idle with dataPointer := 508 } = some (0xFB#8, 4#8, 1#8, 512) := by
  decide +kernel

/-- V-BLK-26: dropped, no error. -/
theorem test_data_write_past_the_end :
    field (fun t => (t.buf, t.dataPointer, t.error)) (.wrBlkData 0x12345678#32)
      { idle with dataPointer := 512 } = some (pat, 512, false) := by decide +kernel

/-- P1 step 139, by its first two bytes: sector 3 is bytes 1536 to 2047 of the medium. -/
theorem test_read_sector :
    field (fun t => (sectorByte t.buf 0, sectorByte t.buf 1, t.pendingCount, t.error)) .wrBlkCommandReadSector
      sector3 = some (0xAA#8, 0#8, 1, false) := by decide +kernel

/-- V-BLK-21: the offset is not truncated to 32 bits. -/
theorem test_read_sector_offset_is_exact :
    field (fun t => (t.pendingCount, t.error)) .wrBlkCommandReadSector
      { opened3 with sectorRegister := 0x00800000#32 } = some (0, true) := by decide

/-- V-BLK-11: zero-fill up to the sector, then the buffer. -/
theorem test_write_sector_extends_with_zeros :
    field (fun t => (t.mediumBytes.len, t.mediumBytes.byte? 99, t.mediumBytes.byte? 100, t.mediumBytes.byte? 513,
        t.mediumBytes.byte? 1024)) .wrBlkCommandWriteSector
      { opened3 with medium := some ⟨[(99, 0x11#8)], 100⟩, sectorRegister := 1#32 } =
      some (1024, some 0x11#8, some 0#8, some 1#8, none) := by decide +kernel

/-- V-BLK-22: the counter saturates. -/
theorem test_completion_saturates :
    field State.pendingCount .wrBlkCommandWriteSector { sector3 with pendingCount := 2 ^ 32 - 1 } =
      some (2 ^ 32 - 1) := by decide

/-- V-BLK-16 and V-BLK-14: one acknowledgment clears the error; the counter has floor 0. -/
theorem test_acknowledge :
    field (fun t => (t.pendingCount, t.error)) .wrBlkCommandAckInterrupt
      { idle with pendingCount := 2, error := true } = some (1, false) ∧
    field State.pendingCount .wrBlkCommandAckInterrupt idle = some 0 := by decide

/-- V-BLK-18, V-DEC-9, V-DEC-10, V-DEC-11, V-DEC-6: nothing changes. -/
theorem test_no_ops :
    exec (.wrBlkCommandMalformed 0x101#32) idle = .next idle ∧ exec (.wrBlkStatus 0#32) idle = .next idle ∧
    exec (.wrKeyData 0x55#32) idle = .next idle ∧ exec (.wrKeyStatus 0#32) idle = .next idle ∧
    exec (.wrUnmapped 0xFFFF0008#32 1#32) idle = .next idle := ⟨rfl, rfl, rfl, rfl, rfl⟩

/-- V-KEY-2 and V-KEY-1. -/
theorem test_key_status :
    field State.response .rdKeyStatus (queueOf 1) = some (.data 1#32) ∧
    field State.response .rdKeyStatus idle = some (.data 0#32) := by decide

/-- V-KEY-3 and V-KEY-1. -/
theorem test_key_data :
    field (fun t => (t.response, t.q)) .rdKeyData (queueOf 2) = some (.data 1#32, [2#32]) ∧
    field (fun t => (t.response, t.q)) .rdKeyData idle = some (.data 0xFFFFFFFF#32, []) := by decide

/-- V-KEY-7: a 17th code drops the first. -/
theorem test_inject_overflow :
    field (fun t => (t.q.head?, t.q.getLast?, t.q.length)) (.inject 0x11#32) (queueOf 16) =
      some (some 2#32, some 0x11#32, 16) := by decide

/-- V-CON-2: bits 31:8 are ignored. -/
theorem test_console_write :
    field State.console (.wrConsoleOut 0x168#32) { idle with console := [0x41#8] } = some [0x41#8, 0x68#8] := by
  decide

/-- V-BST-1 and V-BST-2. -/
theorem test_attach :
    field (fun t => (t.response, t.attached)) .attach (opening true) = some (.opened, true) ∧
    field (fun t => (t.response, t.attached)) .attach (opening false) =
      some (.failed .openFailed, false) := by decide

/-- V-BST-9. -/
theorem test_attach_while_attached : exec .attach opened3 = .refused .attachWhileAttached := rfl

/-- V-BST-4: the controller is reset, the medium keeps its bytes. -/
theorem test_detach :
    field (fun t => (t.attached, t.error, t.pendingCount, t.sectorRegister, t.medium)) .detach
      { sector3 with pendingCount := 2, error := true } = some (false, false, 0, 0#32, some medium3) := by
  decide

/-- V-RST-1, and U8's DETACH first. -/
theorem test_reset :
    field (fun t => (t.attached, t.q, t.console, t.sectorRegister, t.medium)) .reset
      { sector3 with q := [1#32], console := [0x41#8] } = some (false, [], [], 0#32, some medium3) := by decide

/-- The word of an operation placed as the next one is the operation performed. -/
theorem test_step_from_reset :
    step (State.reset.withFetchWord 68 0x1FFFF001800000003) =
      .next { State.reset with sectorRegister := 3#32 } := rfl

/-! ## Witnesses: for each obligation with hypotheses, inputs that meet them -/

theorem test_witness_decodeOfEncode : Config.params.Valid ∧
    (Instr.wrBlkCommandMalformed 4#32).WellFormed Config.params ∧
    (Instr.rdUnmapped 0xFFFF0011#32).WellFormed Config.params ∧
    (Instr.wrUnmapped 0xFFFF0028#32 1#32).WellFormed Config.params := by decide

theorem test_witness_encodeOfDecode :
    decodeWith Config.params 0x0FFFF0010DEADBEEF#68 = .ok .rdBlkStatus ∧
    canonicalWord 0x0FFFF0010DEADBEEF#68 = 0x0FFFF001000000000#68 := by decide

theorem test_witness_kinds : (opKind 0x80000000000000000#68).toNat = 4 ∧
    (opKind 0xA0000000000000000#68).toNat = 5 ∧ (opKind 0xE0000000000000000#68).toNat = 7 := by decide

theorem test_witness_stepPerforms :
    ({ idle with ops := [0x80000000000000000#68, 0#68] } : State).ops = [0x80000000000000000#68, 0#68] ∧
    decode 0x80000000000000000#68 = .ok .reset := by decide

theorem test_witness_stepWithoutAnOperation : idle.ops = [] ∧
    ({ idle with ops := [0xA0000000000000000#68] } : State).ops = [0xA0000000000000000#68] ∧
    5 ≤ (opKind 0xA0000000000000000#68).toNat := by decide

/-- Both sides of each bound of AddressMapIsExact, and UnmappedAccessesDoNothing's premise. -/
theorem test_witness_addresses :
    0xFFFF0004#32 ∈ Config.params.addresses ∧ 0xFFFF0010#32 ∈ Config.params.addresses ∧
    0xFFFF0024#32 ∈ Config.params.addresses ∧ 0xFFFF0008#32 ∉ Config.params.addresses ∧
    0xFFFF000C#32 ∉ Config.params.addresses ∧ 0xFFFF0028#32 ∉ Config.params.addresses ∧
    0xFFFF0011#32 ∉ Config.params.addresses ∧ 0x7FFF0004#32 ∉ Config.params.addresses := by decide

theorem test_witness_isolation : Instr.rdKeyData.agent = .busMaster ∧
    (∃ t, exec .rdKeyData (queueOf 2) = .next t) ∧ Instr.rdKeyData.owner ≠ some .console ∧
    Instr.rdKeyData.owner ≠ some .blockDevice := ⟨rfl, ⟨_, rfl⟩, by decide, by decide⟩

theorem test_witness_seesOnlyItsDevice : Instr.rdKeyData.owner = some .keyboard ∧
    (queueOf 2).SameDevice .keyboard { sector3 with q := (queueOf 2).q } ∧
    (∃ t, exec .rdKeyData (queueOf 2) = .next t) ∧
    (∃ t, exec .rdKeyData { sector3 with q := (queueOf 2).q } = .next t) :=
  ⟨rfl, rfl, ⟨_, rfl⟩, ⟨_, rfl⟩⟩

/-- Each clause of DecoderIsTheOnlyWayIn: the field does change. -/
theorem test_witness_onlyWayIn :
    (field (fun t => decide (t.mediumBytes.byte? 1537 ≠ medium3.byte? 1537)) .wrBlkCommandWriteSector sector3 =
      some true) ∧
    field State.dataPointer .rdBlkData idle = some 4 ∧ field State.dataPointer (.wrBlkData 1#32) idle = some 4 ∧
    field State.dataPointer .wrBlkCommandReadSector { idle with dataPointer := 8 } = some 0 ∧
    field State.dataPointer .wrBlkCommandWriteSector { idle with dataPointer := 8 } = some 0 ∧
    field State.pendingCount .wrBlkCommandReadSector sector3 = some 1 ∧
    field State.pendingCount .wrBlkCommandAckInterrupt { idle with pendingCount := 1 } = some 0 := by
  decide +kernel

theorem test_witness_sectorRegister :
    field State.sectorRegister (.wrBlkSector 9#32) idle = some 9#32 ∧
    field State.sectorRegister .detach sector3 = some 0#32 ∧ field State.sectorRegister .reset sector3 = some 0#32 ∧
    field State.sectorRegister .attach { sector3 with attached := false } = some 0#32 ∧
    busy7.busy = true ∧ field State.sectorRegister .wrBlkCommandReadSector busy7 = some 7#32 := by decide

/-- The last sector inside the medium, and the first one past it. -/
theorem test_witness_readSector : sector3.busy = false ∧ sector3.attached = true ∧ sector3.nextAnswer = true ∧
    sector3.SectorInside ∧ ({ sector3 with sectorRegister := 4#32 } : State).busy = false ∧
    ¬ ({ sector3 with sectorRegister := 4#32 } : State).SectorInside ∧ failing3.busy = false ∧
    failing3.nextAnswer = false ∧ idle.busy = false ∧ idle.attached = false := by decide

theorem test_witness_writeSector : sector3.busy = false ∧ sector3.attached = true ∧ sector3.nextAnswer = true ∧
    sector3.mediumBytes.Wf ∧ failing3.busy = false ∧ failing3.attached = true ∧ failing3.nextAnswer = false ∧
    idle.busy = false ∧ idle.attached = false := by decide

/-- The byte WriteSectorFails speaks of: below the old end and outside sector 3. -/
theorem test_witness_writeSector_failed_byte : (0 : Nat) < failing3.mediumBytes.len ∧
    (0 < sectorOffset failing3.sectorRegister ∨ sectorOffset failing3.sectorRegister + 512 ≤ 0) ∧
    field State.error .wrBlkCommandWriteSector failing3 = some true := by decide

/-- In WriteSectorSucceeds, a byte under each clause: the sector, below the old end, the gap, beyond. -/
theorem test_witness_writeSector_bytes :
    field (fun t => (t.mediumBytes.byte? 3071, t.mediumBytes.byte? 1536, t.mediumBytes.byte? 2048,
        t.mediumBytes.byte? 3072)) .wrBlkCommandWriteSector { sector3 with sectorRegister := 5#32 } =
      some (some 0xFF#8, some 0xAA#8, some 0#8, none) := by decide +kernel

theorem test_witness_busy : busy7.busy = true := rfl

theorem test_witness_acknowledge : idle.pendingCount = 0 ∧
    ({ idle with pendingCount := 2 } : State).pendingCount = 1 + 1 := by decide

theorem test_witness_malformed : (0#32 ≠ 1#32 ∧ 0#32 ≠ 2#32 ∧ 0#32 ≠ 3#32) ∧
    (0x80000001#32 ≠ 1#32 ∧ 0x80000001#32 ≠ 2#32 ∧ 0x80000001#32 ≠ 3#32) := by decide

/-- ControllerPhaseTransitions: each phase, and both sides of the acknowledgment's bound. -/
theorem test_witness_phases : idle.busy = false ∧ idle.phase = .idle ∧ busy7.phase = .busy ∧
    ({ idle with pendingCount := 1 } : State).phase = .doneOk ∧
    ({ idle with error := true } : State).phase = .doneError ∧
    ({ idle with pendingCount := 2, error := true } : State).phase = .doneBoth ∧
    field State.phase .wrBlkCommandAckInterrupt { idle with pendingCount := 2, error := true } = some .doneOk := by
  decide

theorem test_witness_data : ({ idle with dataPointer := 508 } : State).dataPointer < 512 ∧
    512 ≤ ({ idle with dataPointer := 512 } : State).dataPointer ∧ idle.dataPointer = 0 ∧ 508 + 4 ≤ 512 := by
  decide

theorem test_witness_answers : sector3.answers = true :: true :: [true, true] ∧
    sector3.answers = true :: true :: true :: [true] ∧ sector3.busy = false ∧ sector3.attached = true := by decide

/-- SectorRoundTrip: the buffer does differ at the read. -/
theorem test_witness_roundTrip_buffer : sectorOf (fun _ => 0x55#8) ≠ sector3.buf := by decide +kernel

/-- SectorRoundTrip's other sector: sector 0 is inside and is not sector 3. -/
theorem test_witness_otherSector : 0#32 ≠ sector3.sectorRegister ∧
    ((0#32 : Word).toNat + 1) * 512 ≤ sector3.mediumBytes.len ∧ idle.attached = false ∧
    ∃ t, exec .reset idle = .next t := ⟨by decide, by decide, rfl, ⟨_, rfl⟩⟩

theorem test_witness_attach : (opening true).attached = false ∧ (opening true).nextAnswer = true ∧
    (opening false).attached = false ∧ (opening false).nextAnswer = false ∧ (opening true).medium = none ∧
    ({ opening true with medium := some medium3 } : State).medium = some medium3 ∧ opened3.attached = true := by
  decide

theorem test_witness_detach : idle.attached = false ∧ opened3.attached = true := by decide

theorem test_witness_keyboard : idle.q = [] ∧ (queueOf 1).q ≠ [] ∧ (queueOf 2).q = 1#32 :: [2#32] ∧
    (queueOf 15).q.length < 16 ∧ (queueOf 16).q = 1#32 :: (queueOf 16).q.tail ∧
    (queueOf 16).q.tail.length = 15 ∧ (queueOf 16).q.length ≤ 16 ∧
    field State.irq (.inject 0#32) idle = some true := by decide

theorem test_witness_console : (∃ t, exec (.wrConsoleOut 0x41#32) idle = .next t) ∧
    (∃ t, exec .reset idle = .next t) ∧ (∃ t, exec .detach opened3 = .next t) ∧
    (∃ t, exec .attach idle = .next t) := by
  refine ⟨⟨_, rfl⟩, ⟨_, rfl⟩, ⟨_, rfl⟩, ⟨_, rfl⟩⟩

theorem test_witness_needNoAttach :
    field State.console (.wrConsoleOut 0x41#32) idle = some [0x41#8] ∧
    field State.console (.wrConsoleOut 0x41#32) opened3 = some [0x41#8] ∧
    field State.q (.inject 7#32) idle = some [7#32] ∧
    field State.response .rdKeyStatus opened3 = some (.data 0#32) ∧
    field State.response .rdKeyData { opened3 with q := [7#32] } = some (.data 7#32) := by decide

theorem test_witness_errors : Instr.rdBlkStatus.isRead = true ∧ Instr.rdBlkStatus.agent = .busMaster ∧
    (Instr.wrBlkStatus 0#32).isRead = false ∧
    SectorCommand .wrBlkCommandReadSector ∧ failing3.busy = false ∧ ¬ failing3.StoreOk .wrBlkCommandReadSector ∧
    ¬ failing3.StoreOk .wrBlkCommandWriteSector ∧ idle.busy = false ∧ ¬ idle.StoreOk .wrBlkCommandWriteSector ∧
    ({ sector3 with sectorRegister := 4#32 } : State).busy = false ∧
    ¬ ({ sector3 with sectorRegister := 4#32 } : State).StoreOk .wrBlkCommandReadSector ∧
    field State.error .wrBlkCommandReadSector failing3 = some true ∧
    field State.response .attach (opening false) = some (.failed .openFailed) := by decide

/-- FlagTableIsComplete and InterruptLineRisesAndFalls: every flag and the line do rise and fall. -/
theorem test_witness_flags :
    field State.error .wrBlkCommandReadSector idle = some true ∧
    field State.error .wrBlkCommandAckInterrupt { idle with error := true } = some false ∧
    field State.interruptPendingBit .wrBlkCommandReadSector sector3 = some true ∧
    field State.interruptPendingBit .wrBlkCommandAckInterrupt { idle with pendingCount := 1 } = some false ∧
    field State.dataAvailable (.inject 1#32) idle = some true ∧
    field State.dataAvailable .rdKeyData (queueOf 1) = some false ∧
    field State.attached .detach opened3 = some false ∧
    field State.attached .attach { opened3 with attached := false } = some true ∧
    field State.busy .reset busy7 = some false ∧ idle.irq = false ∧ (queueOf 1).irq = true ∧
    field State.irq .rdKeyData (queueOf 1) = some false ∧ field State.irq (.inject 1#32) idle = some true ∧
    field State.irq .wrBlkCommandReadSector sector3 = some true := by decide

/-- The conditions of the two statements, each met: success, the three failures of the store, `busy`. -/
theorem test_witness_commandEnds : sector3.CommandSucceeds .wrBlkCommandReadSector ∧
    ({ sector3 with sectorRegister := 4#32 } : State).CommandSucceeds .wrBlkCommandWriteSector ∧
    ({ sector3 with sectorRegister := 4#32 } : State).CommandFails .wrBlkCommandReadSector ∧
    failing3.CommandFails .wrBlkCommandWriteSector ∧ idle.CommandFails .wrBlkCommandReadSector ∧
    busy7.CommandFails .wrBlkCommandWriteSector := by decide

/-- A `BUSY` found at 1 falls at RESET, ATTACH and DETACH, and stays at an acknowledgment and at a DETACH of a
closed store (S3, R147). -/
theorem test_witness_busyFalls : field State.busy .reset busy7 = some false ∧
    field State.busy .detach busy7 = some false ∧
    field State.busy .attach { busy7 with attached := false } = some false ∧
    field State.busy .wrBlkCommandAckInterrupt busy7 = some true ∧
    field State.busy .detach { busy7 with attached := false } = some true := by decide

/-- InterruptLineRisesAndFalls: each way down, and V-IRQ-6 and V-IRQ-7, which keep the line up. -/
theorem test_witness_lineFalls :
    field State.irq .wrBlkCommandAckInterrupt { idle with pendingCount := 1 } = some false ∧
    field State.irq .wrBlkCommandAckInterrupt { idle with pendingCount := 2 } = some true ∧
    field State.irq .wrBlkCommandAckInterrupt { queueOf 1 with pendingCount := 1 } = some true ∧
    field State.irq .rdKeyData (queueOf 2) = some true ∧
    field State.irq .rdKeyData { queueOf 1 with pendingCount := 1 } = some true ∧
    field State.irq .detach { sector3 with pendingCount := 1 } = some false ∧
    field State.irq .detach { sector3 with pendingCount := 1, q := [1#32] } = some true ∧
    field State.irq .reset { sector3 with pendingCount := 1, q := [1#32] } = some false := by decide

theorem test_witness_irq_ignores_the_rest : ({ busy7 with q := idle.q } : State).pendingCount = idle.pendingCount ∧
    ({ busy7 with q := idle.q } : State).q = idle.q := by decide

theorem test_witness_frames : (∃ t, exec .rdBlkStatus idle = .next t) ∧
    field State.answers .wrBlkCommandReadSector sector3 = some [true, true, true] ∧
    field State.answers .rdBlkStatus sector3 = some sector3.answers := ⟨⟨_, rfl⟩, by decide, by decide⟩

theorem test_witness_invariants :
    ({ sector3 with ops := [0x1FFFF001400000002#68] } : State).Inv Config.params ∧
    ∃ t, step { sector3 with ops := [0x1FFFF001400000002#68] } = .next t := ⟨by decide, ⟨_, rfl⟩⟩

end Sys2Proof.Tests
end

section
/-! The sector register of the block device (spec/41_block_device.md section 1). -/

namespace Sys2Proof.Machine

/-- `WR BLK_SECTOR` in any state (R142): there is no guard, so it always answers. -/
theorem exec_wrBlkSector (wdata : Word) (s : State) :
    exec (.wrBlkSector wdata) s = .next (State.respond { s with sectorRegister := wdata } .nothing) := rfl

/-- Settles O15: the write has no failing case, and the line depends only on the count of completions and
the keyboard queue, neither of which it touches. -/
theorem blkSectorWriteStoresVerbatim : Obligations.BlkSectorWriteStoresVerbatim := by
  intro s wdata
  have hirq : (State.respond { s with sectorRegister := wdata } .nothing).irq = s.irq :=
    State.irq_congr s _ rfl rfl
  exact ⟨_, exec_wrBlkSector wdata s, rfl, hirq⟩

end Sys2Proof.Machine
end

section
/-! The console (spec/43_console.md): what a read answers, and what each operation leaves on it. -/

namespace Sys2Proof.Machine

/-- `RD CONSOLE_OUT` in any state (R181): only the answer, the sentinel. -/
theorem exec_rdConsoleOut (s : State) :
    exec .rdConsoleOut s = .next (s.respond (.data Config.sentinel)) := rfl

/-- Settles O44: the state answered is the state read with the sentinel as its response. -/
theorem consoleReadReturnsTheSentinel : Obligations.ConsoleReadReturnsTheSentinel :=
  exec_rdConsoleOut

/-- What an operation emits (R180): one byte for `WR CONSOLE_OUT`, nothing for any other. -/
def emitted : Instr → List Byte
  | .wrConsoleOut wdata => [consoleByte wdata]
  | _ => []

/-- Every operation but RESET appends what it emits to the console (R180, R182). -/
theorem Performs.console_eq_append {s t : State} {i : Instr} (h : Performs s i t) (hi : i ≠ .reset) :
    t.console = s.console ++ emitted i := by
  cases h with
  | reset => exact absurd rfl hi
  | wrConsoleOut wdata => simp [emitted]
  | readFails _ _ u hu =>
    have huc : u.console = s.console := by rcases hu with rfl | rfl <;> simp
    simp [emitted, huc]
  | _ => simp [emitted]

/-- RESET starts the console empty (R182, R250). -/
theorem Performs.console_reset {s t : State} (h : Performs s .reset t) : t.console = [] := by
  cases h; simp

/-- Settles O45: every operation but RESET appends to the console, and ATTACH and DETACH emit nothing. -/
theorem consoleIsNeverTakenBack : Obligations.ConsoleIsNeverTakenBack := by
  intro i s t h
  have hp : Performs s i t := exec_performs i s t h
  refine ⟨fun hi => ?_, ?_, ?_⟩
  · exact ⟨emitted i, (hp.console_eq_append hi).symm⟩
  · rintro rfl
    exact hp.console_reset
  · rintro (rfl | rfl) <;> simpa [emitted] using hp.console_eq_append (by simp)

end Sys2Proof.Machine
end

section
/-! Accesses that select no handler (spec/44_decoder.md R192, R193). -/

namespace Sys2Proof

variable {P : Config.Params} {addr : Word}

/-- R191's dispatch of an address that is none of the seven registers. -/
theorem selectRead_of_not_mapped (h : ¬ P.Mapped addr) : selectRead P addr = .rdUnmapped addr := by
  simp only [Config.Params.Mapped, Config.Params.addresses, List.mem_cons, List.not_mem_nil, or_false,
    not_or] at h
  simp [selectRead, h]

/-- R190's dispatch of an address that is none of the seven registers. -/
theorem selectWrite_of_not_mapped (wdata : Word) (h : ¬ P.Mapped addr) :
    selectWrite P addr wdata = .wrUnmapped addr wdata := by
  simp only [Config.Params.Mapped, Config.Params.addresses, List.mem_cons, List.not_mem_nil, or_false,
    not_or] at h
  simp [selectWrite, h]

end Sys2Proof

namespace Sys2Proof.Machine

/-- `RD <unmapped>` in any state (R193): only the answer, the sentinel. -/
theorem exec_rdUnmapped (addr : Word) (s : State) :
    exec (.rdUnmapped addr) s = .next (s.respond (.data Config.sentinel)) := rfl

/-- `WR <unmapped>` in any state (R192): nothing but the empty answer. -/
theorem exec_wrUnmapped (addr wdata : Word) (s : State) :
    exec (.wrUnmapped addr wdata) s = .next (s.respond .nothing) := rfl

/-- Settles O8: on the bus, an address outside the seven is dispatched to the unmapped access, which only
answers. -/
theorem unmappedAccessesDoNothing : Obligations.UnmappedAccessesDoNothing := by
  intro s addr wdata h
  refine ⟨?_, ?_, exec_rdUnmapped addr s, exec_wrUnmapped addr wdata s⟩
  · rw [busRead, selectRead_of_not_mapped h]
    exact exec_rdUnmapped addr s
  · rw [busWrite, selectWrite_of_not_mapped wdata h]
    exact exec_wrUnmapped addr wdata s

end Sys2Proof.Machine
end

section
/-! The decoder is the only way in (spec/44_decoder.md R198): for each field, the bus operations that can
change it. -/

namespace Sys2Proof.Machine

variable {s t : State} {i : Instr}

/-- No bus operation attaches or detaches. -/
theorem Performs.attached_of_busMaster (h : Performs s i t) (hi : i.agent = .busMaster) :
    t.attached = s.attached := by
  cases h with
  | inject | attachOpened | attachFailed | detachClosed | detachOpen | reset => cases hi
  | readFails _ _ u hu => rcases hu with rfl | rfl <;> simp
  | _ => simp

/-- The only bus operation that can change the medium is `WRITE_SECTOR`. -/
theorem Performs.eq_writeSector_of_medium_ne (h : Performs s i t) (hi : i.agent = .busMaster)
    (hne : t.medium ≠ s.medium) : i = .wrBlkCommandWriteSector := by
  cases h with
  | inject | attachOpened | attachFailed | detachClosed | detachOpen | reset => cases hi
  | writeBusy | writeOk | writeFails | writeDetached => rfl
  | readFails _ _ u hu => rcases hu with rfl | rfl <;> simp at hne
  | _ => simp at hne

/-- The data pointer moves only at a sector command and at an access of the data port. -/
theorem Performs.of_dataPointer_ne (h : Performs s i t) (hi : i.agent = .busMaster)
    (hne : t.dataPointer ≠ s.dataPointer) :
    i = .wrBlkCommandReadSector ∨ i = .wrBlkCommandWriteSector ∨ i = .rdBlkData ∨ ∃ w, i = .wrBlkData w := by
  cases h with
  | inject | attachOpened | attachFailed | detachClosed | detachOpen | reset => cases hi
  | readBusy | readOk | readFails => exact .inl rfl
  | writeBusy | writeOk | writeFails | writeDetached => exact .inr (.inl rfl)
  | rdBlkDataInside | rdBlkDataExhausted => exact .inr (.inr (.inl rfl))
  | wrBlkDataInside wdata | wrBlkDataExhausted wdata => exact .inr (.inr (.inr ⟨wdata, rfl⟩))
  | _ => simp at hne

/-- The count of completions moves only at the three commands. -/
theorem Performs.of_pendingCount_ne (h : Performs s i t) (hi : i.agent = .busMaster)
    (hne : t.pendingCount ≠ s.pendingCount) :
    i = .wrBlkCommandReadSector ∨ i = .wrBlkCommandWriteSector ∨ i = .wrBlkCommandAckInterrupt := by
  cases h with
  | inject | attachOpened | attachFailed | detachClosed | detachOpen | reset => cases hi
  | readBusy | readOk | readFails => exact .inl rfl
  | writeBusy | writeOk | writeFails | writeDetached => exact .inr (.inl rfl)
  | acknowledge => exact .inr (.inr rfl)
  | _ => simp at hne

/-- No bus operation injects: the keyboard queue only loses entries, from its head. -/
theorem Performs.q_suffix_of_busMaster (h : Performs s i t) (hi : i.agent = .busMaster) : t.q <:+ s.q := by
  cases h with
  | inject | attachOpened | attachFailed | detachClosed | detachOpen | reset => cases hi
  | rdKeyDataPops code rest hq => simp [hq]
  | readFails _ _ u hu => rcases hu with rfl | rfl <;> simp
  | _ => simp

/-- No bus operation resets: the console keeps what was emitted. -/
theorem Performs.console_prefix_of_busMaster (h : Performs s i t) (hi : i.agent = .busMaster) :
    s.console <+: t.console := by
  have hr : i ≠ .reset := by rintro rfl; cases hi
  exact ⟨emitted i, (h.console_eq_append hr).symm⟩

/-- Settles O12: whatever a bus operation does, field by field. -/
theorem decoderIsTheOnlyWayIn : Obligations.DecoderIsTheOnlyWayIn := by
  intro i s t hi h
  have hp : Performs s i t := exec_performs i s t h
  exact ⟨hp.attached_of_busMaster hi, hp.eq_writeSector_of_medium_ne hi, hp.of_dataPointer_ne hi,
    hp.of_pendingCount_ne hi, hp.q_suffix_of_busMaster hi, hp.console_prefix_of_busMaster hi⟩

end Sys2Proof.Machine
end

section
/-! No faults, and the interrupt line (spec/60_exceptions.md R211, R215): every bus operation answers, what an
operation returns to its agent, and where a failed sector command is captured. -/

namespace Sys2Proof.Machine

/-- Every bus operation answers a next state (R211): the only one with a rejection of its own, a data write past
the end of the buffer, still answers. -/
theorem exec_answers_of_busMaster (i : Instr) (s : State) (hi : i.agent = .busMaster) :
    ∃ t, exec i s = .next t := by
  cases i with
  | inject | attach | detach | reset => cases hi
  | wrBlkData wdata =>
    by_cases hd : s.dataPointer < Config.sectorSize
    · simp [exec, execWrBlkData, s.dataWrite_inside _ _ hd]
    · simp [exec, execWrBlkData, s.dataWrite_exhausted _ _ (Nat.not_lt.mp hd)]
  | _ => exact ⟨_, rfl⟩

section
variable {s t : State} {i : Instr}

/-- What an operation returns to its agent (R92, R93): a word for a bus read, the outcome of the open for ATTACH,
nothing for any other. -/
theorem Performs.response_cases (h : Performs s i t) :
    (i.isRead = true ∧ ∃ v, t.response = .data v) ∨
    (i = .attach ∧ (t.response = .opened ∨ t.response = .failed .openFailed)) ∨
    (i.isRead = false ∧ t.response = .nothing) := by
  cases h with
  | rdConsoleOut | rdBlkStatus | rdBlkCommand | rdBlkSector | rdBlkDataInside | rdBlkDataExhausted | rdKeyStatus
  | rdKeyDataEmpty | rdKeyDataPops | rdUnmapped => exact .inl ⟨rfl, _, rfl⟩
  | attachOpened => exact .inr (.inl ⟨rfl, .inl rfl⟩)
  | attachFailed => exact .inr (.inl ⟨rfl, .inr rfl⟩)
  | _ => exact .inr (.inr ⟨rfl, rfl⟩)

/-- A bus read returns a word, any other bus operation nothing. -/
theorem Performs.response_of_busMaster (h : Performs s i t) (hi : i.agent = .busMaster) :
    (i.isRead = true → ∃ v, t.response = .data v) ∧ (i.isRead = false → t.response = .nothing) := by
  obtain ⟨hr, hv⟩ | ⟨rfl, -⟩ | ⟨hr, hn⟩ := h.response_cases
  · exact ⟨fun _ => hv, by simp [hr]⟩
  · cases hi
  · exact ⟨by simp [hr], fun _ => hn⟩

/-- An error kind is returned by an ATTACH that fails and by nothing else, and it is `OpenFailed`. -/
theorem Performs.of_response_failed {k : ErrorKind} (h : Performs s i t) (hk : t.response = .failed k) :
    i = .attach ∧ k = .openFailed := by
  obtain ⟨-, v, hv⟩ | ⟨hi, ho | ho⟩ | ⟨-, hn⟩ := h.response_cases
  · simp [hv] at hk
  · simp [ho] at hk
  · exact ⟨hi, by simpa [ho] using hk.symm⟩
  · simp [hn] at hk

/-- A sector command that fails, for whatever cause, leaves `error` set (R144, R145, R147). -/
theorem Performs.error_of_commandFails (h : Performs s i t) (hf : s.CommandFails i) : t.error = true := by
  have hns : ¬ s.CommandSucceeds i := (s.commandFails_iff i hf.1).mp hf
  cases h with
  | readBusy | readFails | writeBusy | writeFails | writeDetached => rfl
  | readOk hb ha hn hl => exact absurd ⟨hf.1, hb, ha, hn, fun _ => s.sectorInside_iff.mpr hl⟩ hns
  | writeOk hb ha hn => exact absurd ⟨hf.1, hb, ha, hn, nofun⟩ hns
  | _ => obtain ⟨hc | hc, -⟩ := hf <;> cases hc

end

/-- Settles O48: a bus operation always answers, and what it answers is one of the cases of `Performs`. -/
theorem noBusOperationFaults : Obligations.NoBusOperationFaults := by
  refine ⟨fun i s hi => ?_, fun i s t hc _ hno h => ?_, fun i s t k h hk => ?_⟩
  · obtain ⟨t, h⟩ := exec_answers_of_busMaster i s hi
    exact ⟨t, h, (exec_performs i s t h).response_of_busMaster hi⟩
  · exact (exec_performs i s t h).error_of_commandFails ⟨hc, .inr hno⟩
  · exact (exec_performs i s t h).of_response_failed hk

/-- Settles O50: the line is the or of the two levels, each a function of one field. -/
theorem interruptLineIsTheOrOfTwoLevels : Obligations.InterruptLineIsTheOrOfTwoLevels :=
  fun s => ⟨s.irq_iff, s.irq_congr⟩

end Sys2Proof.Machine
end

section
/-! The console and the keyboard need no ATTACH (spec/70_reset_and_hazards.md R253): their four operations, each
said once for any state. -/

namespace Sys2Proof.Machine

/-- `WR CONSOLE_OUT` in any state (R180): one byte emitted at once. -/
theorem exec_wrConsoleOut (wdata : Word) (s : State) :
    exec (.wrConsoleOut wdata) s = .next ((s.emit (consoleByte wdata)).respond .nothing) := rfl

/-- INJECT in any state (R170): it never blocks and never errors. -/
theorem exec_inject (code : Word) (s : State) :
    exec (.inject code) s = .next ((s.enqueueKey Config.params code).respond .nothing) := rfl

/-- `RD KEY_STATUS` in any state (R172): only the answer. -/
theorem exec_rdKeyStatus (s : State) :
    exec .rdKeyStatus s = .next (s.respond (.data (s.keyStatus Config.params))) := rfl

/-- `RD KEY_DATA` of an empty queue (R171): only the answer, the sentinel. -/
theorem exec_rdKeyData_nil (s : State) (hq : s.q = []) :
    exec .rdKeyData s = .next (s.respond (.data Config.sentinel)) := by
  simp [exec, execRdKeyData, s.dequeueKey_nil hq]

/-- `RD KEY_DATA` of a queue with a head (R171): the head is popped and answered. -/
theorem exec_rdKeyData_cons (s : State) (code : Word) (rest : List Word) (hq : s.q = code :: rest) :
    exec .rdKeyData s = .next (State.respond { s with q := rest } (.data code)) := by
  simp [exec, execRdKeyData, s.dequeueKey_cons code rest hq]

/-- Settles O47: what each of the four operations answers is made from the console, the keyboard queue and its
operand, so the same equation holds of the state with the other `attached`; only `RD KEY_DATA` branches, on the
queue, which that state shares. -/
theorem consoleAndKeyboardNeedNoAttach : Obligations.ConsoleAndKeyboardNeedNoAttach := by
  rintro i s b (⟨wdata, rfl⟩ | ⟨code, rfl⟩ | rfl | rfl)
  · exact ⟨_, exec_wrConsoleOut wdata s, exec_wrConsoleOut wdata { s with attached := b }⟩
  · exact ⟨_, exec_inject code s, exec_inject code { s with attached := b }⟩
  · exact ⟨_, exec_rdKeyStatus s, exec_rdKeyStatus { s with attached := b }⟩
  · by_cases hq : s.q = []
    · exact ⟨_, exec_rdKeyData_nil s hq, exec_rdKeyData_nil { s with attached := b } hq⟩
    · obtain ⟨code, rest, hq⟩ := List.exists_cons_of_ne_nil hq
      exact ⟨_, exec_rdKeyData_cons s code rest hq,
        exec_rdKeyData_cons { s with attached := b } code rest hq⟩

end Sys2Proof.Machine
end

section
/-! The decoder and the encoder are inverse (spec/30_encoding.md R90 to R101): how a word of each kind is decoded,
what the dispatch selects, and how the selected operation is encoded. -/

namespace Sys2Proof

variable (P : Config.Params) (addr wdata : Word)

/-! ## Decoding by kind (R91) -/

theorem decodeWith_readWord : decodeWith P (readWord addr) = .ok (selectRead P addr) := by
  simp [decodeWith, readWord]

theorem decodeWith_writeWord : decodeWith P (writeWord addr wdata) = .ok (selectWrite P addr wdata) := by
  simp [decodeWith, writeWord]

theorem kind_cases : ∀ kind : BitVec 3, kind = 0#3 ∨ kind = 1#3 ∨ kind = 2#3 ∨ kind = 3#3 ∨ kind = 4#3 ∨
    5 ≤ kind.toNat := by decide

/-- What a word means, field by field: the operation it decodes to, and the word with its meaningless fields zeroed. -/
inductive Spells : OpWord → Instr → OpWord → Prop where
  | read (addr data : Word) :
      Spells (packOp 0#3 false addr data) (selectRead P addr) (readWord addr)
  | write (addr data : Word) :
      Spells (packOp 0#3 true addr data) (selectWrite P addr data) (writeWord addr data)
  | inject (we : Bool) (addr data : Word) :
      Spells (packOp 1#3 we addr data) (.inject data) (packOp 1#3 false 0#32 data)
  | attach (we : Bool) (addr data : Word) :
      Spells (packOp 2#3 we addr data) .attach (packOp 2#3 false 0#32 0#32)
  | detach (we : Bool) (addr data : Word) :
      Spells (packOp 3#3 we addr data) .detach (packOp 3#3 false 0#32 0#32)
  | reset (we : Bool) (addr data : Word) :
      Spells (packOp 4#3 we addr data) .reset (packOp 4#3 false 0#32 0#32)

variable {P} in
/-- What `Spells` says of a word is what the decoder and `canonicalWord` compute. -/
theorem Spells.decode_canonical {w c : OpWord} {i : Instr} (h : Spells P w i c) :
    decodeWith P w = .ok i ∧ canonicalWord w = c := by
  cases h <;> simp [decodeWith, canonicalWord, readWord, writeWord]

/-- A word spells an operation, or its kind is 5, 6 or 7 and the decoder rejects it by that kind. -/
theorem spells_or_rejected (w : OpWord) :
    (∃ i c, Spells P w i c) ∨ (5 ≤ (opKind w).toNat ∧ decodeWith P w = .error (.noOperation (opKind w))) := by
  rw [← packOp_fields w]
  generalize opKind w = kind, opWe w = we, opAddr w = addr, opData w = data
  obtain rfl | rfl | rfl | rfl | rfl | hk := kind_cases kind
  · cases we
    · exact .inl ⟨_, _, .read addr data⟩
    · exact .inl ⟨_, _, .write addr data⟩
  · exact .inl ⟨_, _, .inject we addr data⟩
  · exact .inl ⟨_, _, .attach we addr data⟩
  · exact .inl ⟨_, _, .detach we addr data⟩
  · exact .inl ⟨_, _, .reset we addr data⟩
  · refine .inr ⟨by simpa using hk, ?_⟩
    rw [decodeWith, opKind_packOp]
    split
    case h_6 => rfl
    all_goals omega

variable {P} in
/-- A word decoded to an operation spells it. -/
theorem spells_of_decodeWith {w : OpWord} {i : Instr} (h : decodeWith P w = .ok i) :
    Spells P w i (canonicalWord w) := by
  obtain ⟨j, c, hs⟩ | ⟨-, he⟩ := spells_or_rejected P w
  · obtain ⟨hd, hc⟩ := hs.decode_canonical
    obtain rfl : j = i := by simpa [hd] using h
    rwa [hc]
  · simp [he] at h

/-! ## What the dispatch selects (R190, R191, R143) -/

variable {P addr} in
theorem mapped_iff : P.Mapped addr ↔ addr = P.addrConsoleOut ∨ addr = P.addrBlkStatus ∨
    addr = P.addrBlkCommand ∨ addr = P.addrBlkSector ∨ addr = P.addrBlkData ∨ addr = P.addrKeyStatus ∨ addr = P.addrKeyData := by
  simp [Config.Params.Mapped, Config.Params.addresses]

variable {P wdata} in
theorem isCommand_iff : P.IsCommand wdata ↔
    wdata = P.cmdReadSector ∨ wdata = P.cmdWriteSector ∨ wdata = P.cmdAckInterrupt := by
  simp [Config.Params.IsCommand, Config.Params.commands]

/-- Reading the register selected for an address is reading that address. -/
theorem encodeWith_selectRead : encodeWith P (selectRead P addr) = readWord addr := by
  unfold selectRead
  split_ifs <;> simp [encodeWith, *]

theorem encodeWith_selectCommand :
    encodeWith P (selectCommand P wdata) = writeWord P.addrBlkCommand wdata := by
  unfold selectCommand
  split_ifs <;> simp [encodeWith, *]

theorem encodeWith_selectWrite : encodeWith P (selectWrite P addr wdata) = writeWord addr wdata := by
  unfold selectWrite
  split_ifs
  on_goal 3 => simp [encodeWith_selectCommand, *]
  all_goals simp [encodeWith, *]

/-- Only an address that is no register selects the catch-all read. -/
theorem selectRead_wellFormed : (selectRead P addr).WellFormed P := by
  unfold selectRead
  split_ifs <;> simp [Instr.WellFormed, mapped_iff, *]

/-- Only a value that is no command code selects the catch-all command. -/
theorem selectCommand_wellFormed : (selectCommand P wdata).WellFormed P := by
  unfold selectCommand
  split_ifs <;> simp [Instr.WellFormed, isCommand_iff, *]

theorem selectWrite_wellFormed : (selectWrite P addr wdata).WellFormed P := by
  unfold selectWrite
  split_ifs
  on_goal 3 => exact selectCommand_wellFormed P wdata
  all_goals simp [Instr.WellFormed, mapped_iff, *]

section
variable {P}

/-- With the seven addresses distinct (R70), each register's address selects that register for a read. -/
theorem selectRead_address (h : P.addresses.Nodup) :
    selectRead P P.addrConsoleOut = .rdConsoleOut ∧ selectRead P P.addrBlkStatus = .rdBlkStatus ∧
    selectRead P P.addrBlkCommand = .rdBlkCommand ∧ selectRead P P.addrBlkSector = .rdBlkSector ∧
    selectRead P P.addrBlkData = .rdBlkData ∧ selectRead P P.addrKeyStatus = .rdKeyStatus ∧
    selectRead P P.addrKeyData = .rdKeyData := by
  have hne := List.nodup_reverse.mpr h
  simp only [Config.Params.addresses, List.reverse_cons, List.reverse_nil, List.nil_append, List.cons_append,
    List.nodup_cons, List.mem_cons, List.not_mem_nil, or_false, not_or] at hne
  simp [selectRead, hne]

/-- The same for a write. -/
theorem selectWrite_address (h : P.addresses.Nodup) (wdata : Word) :
    selectWrite P P.addrConsoleOut wdata = .wrConsoleOut wdata ∧
    selectWrite P P.addrBlkStatus wdata = .wrBlkStatus wdata ∧
    selectWrite P P.addrBlkCommand wdata = selectCommand P wdata ∧
    selectWrite P P.addrBlkSector wdata = .wrBlkSector wdata ∧
    selectWrite P P.addrBlkData wdata = .wrBlkData wdata ∧
    selectWrite P P.addrKeyStatus wdata = .wrKeyStatus wdata ∧
    selectWrite P P.addrKeyData wdata = .wrKeyData wdata := by
  have hne := List.nodup_reverse.mpr h
  simp only [Config.Params.addresses, List.reverse_cons, List.reverse_nil, List.nil_append, List.cons_append,
    List.nodup_cons, List.mem_cons, List.not_mem_nil, or_false, not_or] at hne
  simp [selectWrite, hne]

/-- With the three codes distinct (D5), each selects its command. -/
theorem selectCommand_code (h : P.commands.Nodup) :
    selectCommand P P.cmdReadSector = .wrBlkCommandReadSector ∧
    selectCommand P P.cmdWriteSector = .wrBlkCommandWriteSector ∧
    selectCommand P P.cmdAckInterrupt = .wrBlkCommandAckInterrupt := by
  obtain ⟨⟨hrw, hra⟩, hwa⟩ :
      (P.cmdReadSector ≠ P.cmdWriteSector ∧ P.cmdReadSector ≠ P.cmdAckInterrupt) ∧
        P.cmdWriteSector ≠ P.cmdAckInterrupt := by
    simpa [Config.Params.commands] using h
  simp [selectCommand, hra, hwa, hrw.symm]

theorem selectCommand_of_not_isCommand {wdata : Word} (h : ¬ P.IsCommand wdata) :
    selectCommand P wdata = .wrBlkCommandMalformed wdata := by
  simp only [isCommand_iff, not_or] at h
  simp [selectCommand, h]
end

/-! ## The round trips -/

/-- Settles O1: a bus operation's word is dispatched by its address, and by its data at the command register; every
other operation's kind is its own. -/
theorem decodeOfEncodeIsTheOperation : Obligations.DecodeOfEncodeIsTheOperation := by
  rintro P ⟨ha, hc, -⟩ i hi
  cases i with
  | rdUnmapped addr => rw [encodeWith, decodeWith_readWord, selectRead_of_not_mapped hi]
  | wrUnmapped addr wdata => rw [encodeWith, decodeWith_writeWord, selectWrite_of_not_mapped wdata hi]
  | wrBlkCommandMalformed wdata =>
    simp [encodeWith, decodeWith_writeWord, selectWrite_address ha, selectCommand_of_not_isCommand hi]
  | wrBlkCommandReadSector | wrBlkCommandWriteSector | wrBlkCommandAckInterrupt =>
    simp [encodeWith, decodeWith_writeWord, selectWrite_address ha, selectCommand_code hc]
  | wrConsoleOut | wrBlkStatus | wrBlkSector | wrBlkData | wrKeyStatus | wrKeyData =>
    simp [encodeWith, decodeWith_writeWord, selectWrite_address ha]
  | rdConsoleOut | rdBlkStatus | rdBlkCommand | rdBlkSector | rdBlkData | rdKeyStatus | rdKeyData =>
    simp [encodeWith, decodeWith_readWord, selectRead_address ha]
  | inject | attach | detach | reset => simp [encodeWith, decodeWith]

/-- Settles O2: by what the word spells; the dispatch loses no bit of an address or of written data. -/
theorem encodeOfDecodeIsTheCanonicalWord : Obligations.EncodeOfDecodeIsTheCanonicalWord := by
  intro P w i h
  have hs := spells_of_decodeWith h
  generalize canonicalWord w = c at hs
  cases hs with
  | read addr data => exact ⟨selectRead_wellFormed P addr, encodeWith_selectRead P addr⟩
  | write addr data => exact ⟨selectWrite_wellFormed P addr data, encodeWith_selectWrite P addr data⟩
  | inject | attach | detach | reset => exact ⟨trivial, rfl⟩

/-- Settles O3: a word spells an operation exactly when its kind is 0 to 4. -/
theorem exactlyKinds5To7AreRejected : Obligations.ExactlyKinds5To7AreRejected := by
  intro w
  obtain ⟨i, c, h⟩ | ⟨hk, he⟩ := spells_or_rejected Config.params w
  · refine ⟨fun _ => ⟨i, h.decode_canonical.1⟩, fun hk => ?_⟩
    cases h <;> simp at hk
  · exact ⟨fun _ => by omega, fun _ => he⟩

/-! ## The printed operation map (R100) -/

/-- The mask of a row that looks at kind, direction and address. -/
def addressMask : OpWord := packOp 7#3 true 0xFFFFFFFF#32 0#32

/-- The mask of a row that looks at every bit. -/
def fullMask : OpWord := packOp 7#3 true 0xFFFFFFFF#32 0xFFFFFFFF#32

section
open Config (params)

/-- The mask of a row that looks at the kind alone. -/
def kindMask : OpWord := packOp 7#3 false 0#32 0#32

/-- The mask of a row that looks at kind and direction. -/
def directionMask : OpWord := packOp 7#3 true 0#32 0#32

theorem readRows_eq : readRows =
    [⟨1, readWord params.addrConsoleOut, addressMask⟩, ⟨2, readWord params.addrBlkStatus, addressMask⟩,
      ⟨3, readWord params.addrBlkCommand, addressMask⟩, ⟨4, readWord params.addrBlkSector, addressMask⟩,
      ⟨5, readWord params.addrBlkData, addressMask⟩, ⟨6, readWord params.addrKeyStatus, addressMask⟩,
      ⟨7, readWord params.addrKeyData, addressMask⟩] := by decide

theorem writeRows_eq : writeRows =
    [⟨8, writeWord params.addrConsoleOut 0#32, addressMask⟩,
      ⟨9, writeWord params.addrBlkStatus 0#32, addressMask⟩,
      ⟨10, writeWord params.addrBlkCommand params.cmdReadSector, fullMask⟩,
      ⟨11, writeWord params.addrBlkCommand params.cmdWriteSector, fullMask⟩,
      ⟨12, writeWord params.addrBlkCommand params.cmdAckInterrupt, fullMask⟩,
      ⟨13, writeWord params.addrBlkCommand 0#32, addressMask⟩,
      ⟨14, writeWord params.addrBlkSector 0#32, addressMask⟩,
      ⟨15, writeWord params.addrBlkData 0#32, addressMask⟩,
      ⟨16, writeWord params.addrKeyStatus 0#32, addressMask⟩,
      ⟨17, writeWord params.addrKeyData 0#32, addressMask⟩] := by decide

theorem otherRows_eq : otherRows =
    [⟨18, packOp 0#3 false 0#32 0#32, directionMask⟩, ⟨19, packOp 0#3 true 0#32 0#32, directionMask⟩,
      ⟨20, packOp 1#3 false 0#32 0#32, kindMask⟩, ⟨21, packOp 2#3 false 0#32 0#32, kindMask⟩,
      ⟨22, packOp 3#3 false 0#32 0#32, kindMask⟩, ⟨23, packOp 4#3 false 0#32 0#32, kindMask⟩] := by decide

theorem and_ones_kind : ∀ kind : BitVec 3, kind &&& 7#3 = kind := by decide

theorem and_ones_word (a : Word) : a &&& 0xFFFFFFFF#32 = a := BitVec.and_allOnes

section
variable (kind kind' : BitVec 3) (we we' : Bool) (a a' d d' : Word)

theorem selects_addressMask : packOp kind we a d &&& addressMask = packOp kind' we' a' 0#32 ↔
    kind = kind' ∧ we = we' ∧ a = a' := by
  simp [addressMask, packOp_and, packOp_inj, and_ones_kind, and_ones_word]

theorem selects_fullMask : packOp kind we a d &&& fullMask = packOp kind' we' a' d' ↔
    kind = kind' ∧ we = we' ∧ a = a' ∧ d = d' := by
  simp [fullMask, packOp_and, packOp_inj, and_ones_kind, and_ones_word]

theorem selects_directionMask : packOp kind we a d &&& directionMask = packOp kind' we' 0#32 0#32 ↔
    kind = kind' ∧ we = we' := by
  simp [directionMask, packOp_and, packOp_inj, and_ones_kind]

theorem selects_kindMask : packOp kind we a d &&& kindMask = packOp kind' false 0#32 0#32 ↔
    kind = kind' := by
  simp [kindMask, packOp_and, packOp_inj, and_ones_kind]

end

/-- Rows are tried in order (R101). -/
theorem find?_rows_cons (w : OpWord) (r : OpcodeRow) (rows : List OpcodeRow) :
    ((r :: rows).find? fun r => w &&& r.mask == r.pattern).map (·.row) =
      if w &&& r.mask = r.pattern then some r.row
      else (rows.find? fun r => w &&& r.mask == r.pattern).map (·.row) := by
  rw [List.find?_cons]
  by_cases h : w &&& r.mask = r.pattern
  · simp [h]
  · simp [beq_false_of_ne h, h]

/-- The map, tried row by row on a word given by its fields. -/
theorem firstRow_packOp (kind : BitVec 3) (we : Bool) (a d : Word) :
    firstRow (packOp kind we a d) =
      if kind = 0#3 ∧ we = false ∧ a = params.addrConsoleOut then some 1
      else if kind = 0#3 ∧ we = false ∧ a = params.addrBlkStatus then some 2
      else if kind = 0#3 ∧ we = false ∧ a = params.addrBlkCommand then some 3
      else if kind = 0#3 ∧ we = false ∧ a = params.addrBlkSector then some 4
      else if kind = 0#3 ∧ we = false ∧ a = params.addrBlkData then some 5
      else if kind = 0#3 ∧ we = false ∧ a = params.addrKeyStatus then some 6
      else if kind = 0#3 ∧ we = false ∧ a = params.addrKeyData then some 7
      else if kind = 0#3 ∧ we = true ∧ a = params.addrConsoleOut then some 8
      else if kind = 0#3 ∧ we = true ∧ a = params.addrBlkStatus then some 9
      else if kind = 0#3 ∧ we = true ∧ a = params.addrBlkCommand ∧ d = params.cmdReadSector then some 10
      else if kind = 0#3 ∧ we = true ∧ a = params.addrBlkCommand ∧ d = params.cmdWriteSector then some 11
      else if kind = 0#3 ∧ we = true ∧ a = params.addrBlkCommand ∧ d = params.cmdAckInterrupt then some 12
      else if kind = 0#3 ∧ we = true ∧ a = params.addrBlkCommand then some 13
      else if kind = 0#3 ∧ we = true ∧ a = params.addrBlkSector then some 14
      else if kind = 0#3 ∧ we = true ∧ a = params.addrBlkData then some 15
      else if kind = 0#3 ∧ we = true ∧ a = params.addrKeyStatus then some 16
      else if kind = 0#3 ∧ we = true ∧ a = params.addrKeyData then some 17
      else if kind = 0#3 ∧ we = false then some 18
      else if kind = 0#3 ∧ we = true then some 19
      else if kind = 1#3 then some 20
      else if kind = 2#3 then some 21
      else if kind = 3#3 then some 22
      else if kind = 4#3 then some 23
      else none := by
  simp only [firstRow, opcodeRows, readRows_eq, writeRows_eq, otherRows_eq, readWord, writeWord,
    List.cons_append, List.nil_append, find?_rows_cons, selects_addressMask, selects_fullMask,
    selects_directionMask, selects_kindMask, List.find?_nil, Option.map_none]

/-- A read's row is that of the register its address selects: the map lists them in the dispatch's order. -/
theorem firstRow_read (a d : Word) : firstRow (packOp 0#3 false a d) = some (selectRead params a).row := by
  simp only [firstRow_packOp, selectRead, true_and, Bool.false_eq_true, false_and, and_false, ↓reduceIte]
  split_ifs <;> rfl

/-- The command rows, in any order of trying: the three codes are distinct. -/
theorem commandRow_eq (d : Word) :
    (if d = params.cmdReadSector then some 10 else if d = params.cmdWriteSector then some 11
      else if d = params.cmdAckInterrupt then some 12 else some 13) = some (selectCommand params d).row := by
  unfold selectCommand
  by_cases hd : d = params.cmdAckInterrupt
  · subst hd
    rfl
  · simp only [hd, ↓reduceIte]
    split_ifs <;> rfl

/-- A write's row is that of the register its address selects, or of the command. -/
theorem firstRow_write (a d : Word) :
    firstRow (packOp 0#3 true a d) = some (selectWrite params a d).row := by
  simp only [firstRow_packOp, selectWrite, true_and, Bool.true_eq_false, false_and, and_false, ↓reduceIte]
  by_cases ha : a = params.addrBlkCommand
  · subst ha
    simp only [true_and, ↓reduceIte, commandRow_eq]
    split_ifs <;> rfl
  · simp only [ha, false_and, ↓reduceIte]
    split_ifs <;> rfl

/-- Settles O4: the rows of the map are the registers and commands the dispatch selects, in another order. -/
theorem decoderAgreesWithTheOperationMap : Obligations.DecoderAgreesWithTheOperationMap := by
  intro w
  obtain ⟨i, c, h⟩ | ⟨hk, he⟩ := spells_or_rejected Config.params w
  · rw [decode, h.decode_canonical.1]
    cases h with
    | read addr data => exact firstRow_read addr data
    | write addr data => exact firstRow_write addr data
    | inject | attach | detach | reset => simp [firstRow_packOp, Instr.row]
  · rw [decode, he, ← packOp_fields w, firstRow_packOp]
    have hne : ∀ kind : BitVec 3, 5 ≤ kind.toNat →
        kind ≠ 0#3 ∧ kind ≠ 1#3 ∧ kind ≠ 2#3 ∧ kind ≠ 3#3 ∧ kind ≠ 4#3 := by decide
    simp [hne (opKind w) hk]

/-- Settles O5, a vector at a time, by computing the decoder. -/
theorem encodingVectorsDecode : Obligations.EncodingVectorsDecode := by
  unfold Obligations.EncodingVectorsDecode
  decide

end

/-! ## The address map (R70) -/

/-- Settles O9: the seven addresses as numbers. -/
theorem addressMapIsExact : Obligations.AddressMapIsExact := by
  intro addr
  refine ⟨?_, by decide⟩
  rw [show addr ∈ Config.params.addresses ↔ _ from mapped_iff]
  simp only [Config.params, ← BitVec.toNat_inj, BitVec.toNat_ofNat]
  omega

end Sys2Proof
end

section
/-! One step (spec/00_scope.md R5, spec/20_memory.md R75 to R77). -/

namespace Sys2Proof.Machine

/-- Settles O6: the two matches of `step`, on the sequence and on the decoder's answer. -/
theorem stepPerformsTheDecodedOperation : Obligations.StepPerformsTheDecodedOperation := by
  intro s w rest i hops hdecode
  simp [step, hops, hdecode]

/-- Settles O7: the other arms of those matches; the decoder rejects kinds 5 to 7. -/
theorem stepWithoutAnOperation : Obligations.StepWithoutAnOperation := by
  intro s
  refine ⟨fun hops => by simp [step, hops], fun w rest hops hk => ?_⟩
  have hdecode : decode w = .error (.noOperation (opKind w)) := (exactlyKinds5To7AreRejected w).2 hk
  simp [step, hops, hdecode]

end Sys2Proof.Machine
end

section
/-! What an operation does to the flags, the keyboard queue, the data pointer and the medium, said once for each, and
the invariants I1 to I5 (spec/10_state.md section 4) from that. -/

namespace Sys2Proof.Machine

/-- What an operation does to `busy`, `error` and `pendingCount` (R43). -/
inductive FlagEffect (s : State) (i : Instr) (t : State) : Prop where
  | succeeds (h : s.CommandSucceeds i) (busy : t.busy = false) (error : t.error = s.error)
      (count : t.pendingCount = min (s.pendingCount + 1) (2 ^ 32 - 1))
  | fails (h : s.CommandFails i) (busy : t.busy = s.busy) (error : t.error = true)
      (count : t.pendingCount = s.pendingCount)
  | acknowledged (h : i = .wrBlkCommandAckInterrupt) (busy : t.busy = s.busy) (error : t.error = false)
      (count : t.pendingCount = s.pendingCount - 1)
  | replaced (h : s.ControllerReplaced i t) (busy : t.busy = false) (error : t.error = false)
      (count : t.pendingCount = 0)
  | kept (hc : ¬ SectorCommand i) (ha : i ≠ .wrBlkCommandAckInterrupt) (hr : ¬ s.ControllerReplaced i t)
      (busy : t.busy = s.busy) (error : t.error = s.error) (count : t.pendingCount = s.pendingCount)

/-- What an operation does to the keyboard queue (R37). -/
inductive QueueEffect (s : State) (i : Instr) (t : State) : Prop where
  | injected (code : Word) (h : i = .inject code)
      (queue : t.q = (if s.q.length = 16 then s.q.tail else s.q) ++ [code])
  | popped (code : Word) (h : i = .rdKeyData) (queue : s.q = code :: t.q)
  | cleared (h : i = .reset) (queue : t.q = [])
  | kept (hi : ∀ code, i ≠ .inject code) (hd : i = .rdKeyData → s.q = []) (hr : i ≠ .reset) (queue : t.q = s.q)

variable {s t : State} {i : Instr}

theorem Performs.flagEffect (h : Performs s i t) : FlagEffect s i t := by
  cases h with
  | readBusy hb => exact .fails ⟨.inl rfl, .inl hb⟩ rfl rfl rfl
  | writeBusy hb => exact .fails ⟨.inr rfl, .inl hb⟩ rfl rfl rfl
  | readOk hb ha hn hl =>
    exact .succeeds ⟨.inl rfl, hb, ha, hn, fun _ => s.sectorInside_iff.mpr hl⟩ rfl rfl rfl
  | writeOk hb ha hn => exact .succeeds ⟨.inr rfl, hb, ha, hn, nofun⟩ rfl rfl rfl
  | readFails hb hf u hu =>
    have hno : ¬ s.StoreOk .wrBlkCommandReadSector := fun ⟨ha, hn, hl⟩ =>
      hf ⟨ha, hn, s.sectorInside_iff.mp (hl rfl)⟩
    exact .fails ⟨.inl rfl, .inr hno⟩ hb.symm rfl (by rcases hu with rfl | rfl <;> rfl)
  | writeFails hb ha hn => exact .fails ⟨.inr rfl, .inr (by simp [hn])⟩ hb.symm rfl rfl
  | writeDetached hb ha => exact .fails ⟨.inr rfl, .inr (by simp [ha])⟩ hb.symm rfl rfl
  | acknowledge => exact .acknowledged rfl rfl rfl rfl
  | attachOpened ha => exact .replaced (.inr ⟨.inl rfl, by simp [ha]⟩) rfl rfl rfl
  | detachOpen ha => exact .replaced (.inr ⟨.inr rfl, by simp [ha]⟩) rfl rfl rfl
  | reset => exact .replaced (.inl rfl) rfl rfl rfl
  | _ => exact .kept (by simp) (by simp) (by simp) rfl rfl rfl

theorem Performs.queueEffect (h : Performs s i t) : QueueEffect s i t := by
  cases h with
  | inject code => exact .injected code rfl rfl
  | rdKeyDataPops code rest hq => exact .popped code rfl hq
  | rdKeyDataEmpty hq => exact .kept (by simp) (fun _ => hq) (by simp) rfl
  | reset => exact .cleared rfl rfl
  | readFails _ _ u hu => exact .kept (by simp) (by simp) (by simp) (by rcases hu with rfl | rfl <;> rfl)
  | _ => exact .kept (by simp) (by simp) (by simp) rfl

/-- An operation leaves the data pointer, rewinds it, or moves it by one word inside the buffer (R34). -/
theorem Performs.dataPointer_cases (h : Performs s i t) :
    t.dataPointer = s.dataPointer ∨ t.dataPointer = 0 ∨
      (s.dataPointer < 512 ∧ t.dataPointer = s.dataPointer + 4) := by
  cases h with
  | rdBlkDataInside hd => exact .inr (.inr ⟨hd, rfl⟩)
  | wrBlkDataInside _ hd => exact .inr (.inr ⟨hd, rfl⟩)
  | readFails _ _ u hu => exact .inr (.inl (by rcases hu with rfl | rfl <;> rfl))
  | readOk | writeOk | writeFails | writeDetached | attachOpened | detachOpen | reset => exact .inr (.inl rfl)
  | _ => exact .inl rfl

/-- An operation leaves the medium's bytes as they were, except a `WRITE_SECTOR` to an attached store (R41). -/
theorem Performs.mediumBytes_cases (h : Performs s i t) :
    t.mediumBytes = s.mediumBytes ∨ (i = .wrBlkCommandWriteSector ∧
      (t.mediumBytes = s.mediumBytes.storeSector (sectorOffset s.sectorRegister) s.buf ∨
        t.mediumBytes = s.mediumBytes.failedStore (sectorOffset s.sectorRegister) s.takeAnswer.draws)) := by
  cases h with
  | writeOk => exact .inr ⟨rfl, .inl rfl⟩
  | writeFails => exact .inr ⟨rfl, .inr rfl⟩
  | readFails _ _ u hu => exact .inl (by rcases hu with rfl | rfl <;> rfl)
  | _ => exact .inl rfl

/-- No operation makes an existing medium not exist, and one that attaches leaves one. -/
theorem Performs.medium_ne_none (h : Performs s i t) (hs : s.attached = true → s.medium ≠ none)
    (ht : t.attached = true) : t.medium ≠ none := by
  cases h with
  | writeOk | writeFails | attachOpened => simp
  | detachOpen | reset => cases ht
  | readFails _ _ u hu => rcases hu with rfl | rfl <;> exact hs ht
  | _ => exact hs ht

/-! ## The invariants -/

/-- I1: no operation leaves `busy` set. -/
theorem FlagEffect.busy_eq_false (h : FlagEffect s i t) (hb : s.busy = false) : t.busy = false := by
  cases h with
  | succeeds _ busy | replaced _ busy => exact busy
  | fails _ busy | acknowledged _ busy | kept _ _ _ busy => rw [busy, hb]

/-- I2. -/
theorem Performs.pointerLegal (h : Performs s i t) (hs : s.PointerLegal) : t.PointerLegal := by
  obtain ⟨halign, hle⟩ := hs
  have hcases := h.dataPointer_cases
  simp only [State.PointerLegal, Config.wordBytes, Config.sectorSize] at *
  omega

/-- I3: INJECT makes room before it appends to a full queue. -/
theorem QueueEffect.length_le (h : QueueEffect s i t) (hs : s.q.length ≤ 16) : t.q.length ≤ 16 := by
  cases h with
  | injected code _ queue =>
    rw [queue]
    split_ifs with hfull
    · simp [hfull]
    · simp; omega
  | popped code _ queue => rw [queue] at hs; simp at hs; omega
  | cleared _ queue => simp [queue]
  | kept _ _ _ queue => rw [queue]; exact hs

/-- I4: the count saturates. -/
theorem FlagEffect.pendingCount_le (h : FlagEffect s i t) (hs : s.pendingCount ≤ 2 ^ 32 - 1) :
    t.pendingCount ≤ 2 ^ 32 - 1 := by
  cases h with
  | succeeds _ _ _ count | fails _ _ _ count | acknowledged _ _ _ count | replaced _ _ _ count
  | kept _ _ _ _ _ count => omega

/-- I5 and the canonical form. -/
theorem Performs.mediumLegal (h : Performs s i t) (hs : s.MediumLegal) : t.MediumLegal := by
  obtain ⟨hwf, hnone⟩ := hs
  refine ⟨?_, h.medium_ne_none hnone⟩
  obtain hm | ⟨-, hm | hm⟩ := h.mediumBytes_cases
  · rwa [hm]
  · rw [hm]; exact Medium.storeSector_wf _ _ _ hwf
  · rw [hm]; exact Medium.failedStore_wf _ _ _ hwf

/-- Every operation keeps the invariants. -/
theorem Performs.inv (h : Performs s i t) (hs : s.Inv Config.params) : t.Inv Config.params := by
  obtain ⟨hbusy, hpointer, hqueue, hcount, hmedium⟩ := hs
  exact ⟨h.flagEffect.busy_eq_false hbusy, h.pointerLegal hpointer, h.queueEffect.length_le hqueue,
    h.flagEffect.pendingCount_le hcount, h.mediumLegal hmedium⟩

/-- A step that answers performs the oldest waiting operation, or does nothing because none is waiting. -/
theorem step_next_cases (h : step s = .next t) :
    t = s ∨ ∃ i rest, Performs { s with ops := rest } i t := by
  unfold step at h
  split at h
  · cases h; exact .inl rfl
  · split at h
    · exact .inr ⟨_, _, exec_performs _ _ _ h⟩
    · cases h

/-- Settles O58: operation by operation; taking an operation off the sequence touches no invariant. -/
theorem stepKeepsTheInvariants : Obligations.StepKeepsTheInvariants := by
  intro s t hs h
  obtain rfl | ⟨i, rest, hp⟩ := step_next_cases h
  · exact hs
  · exact hp.inv hs

/-- Settles O57. -/
theorem invariantsHoldAtReset : Obligations.InvariantsHoldAtReset :=
  ⟨rfl, by decide, by decide, by decide, State.reset_mediumBytes_wf, nofun⟩

end Sys2Proof.Machine
end

section
/-! The status flags and the interrupt line (spec/10_state.md R43, spec/60_exceptions.md R216, R217), from what an
operation does to the flags and to the queue. -/

namespace Sys2Proof.Machine

variable {s t : State} {i : Instr}

/-- A sector command is neither an acknowledgment nor a replacing of the controller. -/
theorem SectorCommand.not_clearing (h : SectorCommand i) :
    ¬ (i = .wrBlkCommandAckInterrupt ∨ s.ControllerReplaced i t) := by
  rcases h with rfl | rfl <;> simp

/-- A sector command is no operation of the keyboard and no RESET. -/
theorem SectorCommand.not_queue (h : SectorCommand i) :
    (∀ code, i ≠ .inject code) ∧ i ≠ .rdKeyData ∧ i ≠ .reset := by
  rcases h with rfl | rfl <;> simp

theorem not_controllerReplaced_acknowledge : ¬ s.ControllerReplaced .wrBlkCommandAckInterrupt t := by
  simp

namespace FlagEffect

/-- `BUSY` found at 1 is cleared where the controller is replaced and nowhere else (U10). -/
theorem busy_cleared_iff (h : FlagEffect s i t) (hb : s.busy = true) :
    t.busy = false ↔ s.ControllerReplaced i t := by
  cases h with
  | succeeds hs => simp [hs.2.1] at hb
  | fails hf busy => simp [busy, hb, (not_or.mp hf.1.not_clearing).2]
  | acknowledged ha busy => subst ha; simp [busy, hb]
  | replaced hr busy => exact iff_of_true busy hr
  | kept _ _ hr busy => simp [busy, hb, hr]

/-- `ERROR` rises only at a sector command that fails. -/
theorem commandFails_of_error_rises (h : FlagEffect s i t) (hs : s.error = false) (ht : t.error = true) :
    s.CommandFails i := by
  cases h with
  | fails hf => exact hf
  | succeeds _ _ error | acknowledged _ _ error | replaced _ _ error | kept _ _ _ _ error => simp_all

/-- `ACK_INTERRUPT` and the replacing of the controller clear `ERROR`. -/
theorem error_eq_false (h : FlagEffect s i t)
    (hi : i = .wrBlkCommandAckInterrupt ∨ s.ControllerReplaced i t) : t.error = false := by
  cases h with
  | acknowledged _ _ error | replaced _ _ error => exact error
  | succeeds hc | fails hc => exact absurd hi hc.1.not_clearing
  | kept _ ha hr => exact absurd hi (not_or.mpr ⟨ha, hr⟩)

/-- Nothing else clears `ERROR`. -/
theorem of_error_falls (h : FlagEffect s i t) (hs : s.error = true) (ht : t.error = false) :
    i = .wrBlkCommandAckInterrupt ∨ s.ControllerReplaced i t := by
  cases h with
  | acknowledged ha => exact .inl ha
  | replaced hr => exact .inr hr
  | succeeds _ _ error | fails _ _ error | kept _ _ _ _ error => simp_all

/-- A sector command that succeeds keeps `ERROR` and counts one completion. -/
theorem of_succeeds (h : FlagEffect s i t) (hs : s.CommandSucceeds i) :
    t.error = s.error ∧ t.pendingCount = min (s.pendingCount + 1) (2 ^ 32 - 1) := by
  cases h with
  | succeeds _ _ error count => exact ⟨error, count⟩
  | fails hf => exact absurd hs ((s.commandFails_iff i hf.1).mp hf)
  | acknowledged ha => exact absurd (.inl ha) (hs.1.not_clearing (s := s) (t := t))
  | replaced hr => exact absurd (.inr hr) hs.1.not_clearing
  | kept hc => exact absurd hs.1 hc

/-- A sector command that fails sets `ERROR` and counts none. -/
theorem of_fails (h : FlagEffect s i t) (hf : s.CommandFails i) :
    t.error = true ∧ t.pendingCount = s.pendingCount := by
  cases h with
  | fails _ _ error count => exact ⟨error, count⟩
  | succeeds hs => exact absurd hs ((s.commandFails_iff i hf.1).mp hf)
  | acknowledged ha => exact absurd (.inl ha) (hf.1.not_clearing (s := s) (t := t))
  | replaced hr => exact absurd (.inr hr) hf.1.not_clearing
  | kept hc => exact absurd hf.1 hc

theorem count_of_acknowledge (h : FlagEffect s i t) (hi : i = .wrBlkCommandAckInterrupt) :
    t.pendingCount = s.pendingCount - 1 := by
  cases h with
  | acknowledged _ _ _ count => exact count
  | succeeds hc | fails hc => exact absurd (.inl hi) (hc.1.not_clearing (s := s) (t := t))
  | replaced hr => exact absurd (hi ▸ hr) not_controllerReplaced_acknowledge
  | kept _ ha => exact absurd hi ha

theorem count_of_replaced (h : FlagEffect s i t) (hr : s.ControllerReplaced i t) : t.pendingCount = 0 := by
  cases h with
  | replaced _ _ _ count => exact count
  | succeeds hc | fails hc => exact absurd (.inr hr) hc.1.not_clearing
  | acknowledged ha => exact absurd (ha ▸ hr) not_controllerReplaced_acknowledge
  | kept _ _ hn => exact absurd hr hn

/-- Nothing else moves the count. -/
theorem of_count_ne (h : FlagEffect s i t) (hne : t.pendingCount ≠ s.pendingCount) :
    s.CommandSucceeds i ∨ i = .wrBlkCommandAckInterrupt ∨ s.ControllerReplaced i t := by
  cases h with
  | succeeds hs => exact .inl hs
  | acknowledged ha => exact .inr (.inl ha)
  | replaced hr => exact .inr (.inr hr)
  | fails _ _ _ count | kept _ _ _ _ _ count => exact absurd count hne

theorem count_of_rdKeyData (h : FlagEffect s .rdKeyData t) : t.pendingCount = s.pendingCount := by
  by_contra hne
  simpa [State.CommandSucceeds, SectorCommand, State.ControllerReplaced] using h.of_count_ne hne

end FlagEffect

namespace QueueEffect

theorem ne_nil_of_inject (h : QueueEffect s i t) (hi : ∃ code, i = .inject code) : t.q ≠ [] := by
  obtain ⟨code, rfl⟩ := hi
  cases h with
  | injected _ _ queue => simp [queue]
  | popped _ hd | cleared hd => cases hd
  | kept hn => exact absurd rfl (hn code)

/-- An empty queue is filled by INJECT alone. -/
theorem inject_of_ne_nil (h : QueueEffect s i t) (hs : s.q = []) (ht : t.q ≠ []) : ∃ code, i = .inject code := by
  cases h with
  | injected code hi => exact ⟨code, hi⟩
  | popped _ _ queue => simp [hs] at queue
  | cleared _ queue => exact absurd queue ht
  | kept _ _ _ queue => exact absurd (queue.trans hs) ht

/-- The queue becomes empty at RESET and at the read of its last code. -/
theorem eq_nil_of_emptying (h : QueueEffect s i t) (hi : i = .reset ∨ (i = .rdKeyData ∧ s.q.length = 1)) :
    t.q = [] := by
  obtain rfl | ⟨rfl, hlen⟩ := hi
  · cases h with
    | injected _ hi | popped _ hi => cases hi
    | cleared _ queue => exact queue
    | kept _ _ hr => exact absurd rfl hr
  · cases h with
    | injected _ hi | cleared hi => cases hi
    | popped _ _ queue => simpa [queue] using hlen
    | kept _ hd => simp [hd rfl] at hlen

/-- Nothing else empties the queue. -/
theorem emptying_of_eq_nil (h : QueueEffect s i t) (hs : s.q ≠ []) (ht : t.q = []) :
    i = .reset ∨ (i = .rdKeyData ∧ s.q.length = 1) := by
  cases h with
  | injected _ _ queue => simp [queue] at ht
  | popped _ hi queue => exact .inr ⟨hi, by simp [queue, ht]⟩
  | cleared hi => exact .inl hi
  | kept _ _ _ queue => exact absurd (queue ▸ ht) hs

/-- An operation other than INJECT, a read of `KEY_DATA` and RESET leaves the queue as it was. -/
theorem eq_of_ne (h : QueueEffect s i t) (hi : ∀ code, i ≠ .inject code) (hd : i ≠ .rdKeyData)
    (hr : i ≠ .reset) : t.q = s.q := by
  cases h with
  | injected code h => exact absurd h (hi code)
  | popped _ h => exact absurd h hd
  | cleared h => exact absurd h hr
  | kept _ _ _ queue => exact queue

end QueueEffect

/-- Settles O49, a clause at a time, from the effect on the flags and the effect on the queue. -/
theorem flagTableIsComplete : Obligations.FlagTableIsComplete := by
  intro i s t h
  have hp : Performs s i t := exec_performs i s t h
  have hf : FlagEffect s i t := hp.flagEffect
  have hq : QueueEffect s i t := hp.queueEffect
  simp only [State.dataAvailable_iff, State.dataAvailable_eq_false_iff]
  exact ⟨hf.busy_eq_false, hf.busy_cleared_iff, fun h => (hf.of_fails h).1, hf.commandFails_of_error_rises,
    hf.error_eq_false, hf.of_error_falls, fun hs => (hf.of_succeeds hs).2, hf.count_of_acknowledge,
    hf.count_of_replaced, hf.of_count_ne, hq.ne_nil_of_inject, hq.inject_of_ne_nil, hq.eq_nil_of_emptying, hq.emptying_of_eq_nil⟩

/-! ## The interrupt line -/

/-- INJECT and a sector command that succeeds leave the line up (R216). -/
theorem irq_of_raising (hf : FlagEffect s i t) (hq : QueueEffect s i t)
    (hi : (∃ code, i = .inject code) ∨ s.CommandSucceeds i) : t.irq = true := by
  rw [State.irq_iff]
  obtain hi | hs := hi
  · exact .inr (hq.ne_nil_of_inject hi)
  · have := (hf.of_succeeds hs).2
    exact .inl (by omega)

/-- Nothing else raises it. -/
theorem raising_of_irq (hf : FlagEffect s i t) (hq : QueueEffect s i t) (hs : s.irq = false) (ht : t.irq = true) :
    (∃ code, i = .inject code) ∨ s.CommandSucceeds i := by
  obtain ⟨hcount, hqueue⟩ := s.irq_eq_false_iff.mp hs
  obtain hpos | hne := t.irq_iff.mp ht
  · have hmoved : t.pendingCount ≠ s.pendingCount := by omega
    obtain hsucc | hack | hrep := hf.of_count_ne hmoved
    · exact .inr hsucc
    · have := hf.count_of_acknowledge hack; omega
    · have := hf.count_of_replaced hrep; omega
  · exact .inl (hq.inject_of_ne_nil hqueue hne)

/-- A sector command that fails leaves the line as it was. -/
theorem irq_of_fails (hf : FlagEffect s i t) (hq : QueueEffect s i t) (h : s.CommandFails i) : t.irq = s.irq := by
  obtain ⟨hi, hd, hr⟩ := SectorCommand.not_queue h.1
  exact s.irq_congr t (hf.of_fails h).2 (hq.eq_of_ne hi hd hr)

/-- What lowers the line (R217). -/
def Lowers (s : State) (i : Instr) (t : State) : Prop :=
  (i = .wrBlkCommandAckInterrupt ∧ s.pendingCount = 1 ∧ s.q = []) ∨
  (i = .rdKeyData ∧ s.pendingCount = 0 ∧ s.q.length = 1) ∨ i = .reset ∨ (s.ControllerReplaced i t ∧ s.q = [])

/-- The line falls only at one of the four causes: the count and the queue are both empty afterwards, and one of
them was not before. -/
theorem lowers_of_irq_falls (hf : FlagEffect s i t) (hq : QueueEffect s i t) (hs : s.irq = true)
    (ht : t.irq = false) : Lowers s i t := by
  obtain ⟨hcount, hqueue⟩ := t.irq_eq_false_iff.mp ht
  by_cases hne : s.q = []
  · have hpos : 0 < s.pendingCount := by simpa [hne] using s.irq_iff.mp hs
    obtain hsucc | hack | hrep := hf.of_count_ne (by omega)
    · have := (hf.of_succeeds hsucc).2; omega
    · have := hf.count_of_acknowledge hack
      exact .inl ⟨hack, by omega, hne⟩
    · exact .inr (.inr (.inr ⟨hrep, hne⟩))
  · obtain rfl | ⟨rfl, hlen⟩ := hq.emptying_of_eq_nil hne hqueue
    · exact .inr (.inr (.inl rfl))
    · have := hf.count_of_rdKeyData
      exact .inr (.inl ⟨rfl, by omega, hlen⟩)

/-- Each of the four causes empties the count and the queue. -/
theorem irq_falls_of_lowers (hf : FlagEffect s i t) (hq : QueueEffect s i t) (h : Lowers s i t) :
    t.irq = false := by
  rw [State.irq_eq_false_iff]
  obtain ⟨rfl, hone, hnil⟩ | ⟨rfl, hzero, hlen⟩ | rfl | ⟨hrep, hnil⟩ := h
  · exact ⟨by rw [hf.count_of_acknowledge rfl, hone], (hq.eq_of_ne nofun nofun nofun).trans hnil⟩
  · exact ⟨hf.count_of_rdKeyData.trans hzero, hq.eq_nil_of_emptying (.inr ⟨rfl, hlen⟩)⟩
  · exact ⟨hf.count_of_replaced (.inl rfl), hq.eq_nil_of_emptying (.inl rfl)⟩
  · refine ⟨hf.count_of_replaced hrep, ?_⟩
    by_contra hne
    obtain ⟨code, rfl⟩ := hq.inject_of_ne_nil hnil hne
    simp [State.ControllerReplaced] at hrep

/-- Settles O51. -/
theorem interruptLineRisesAndFalls : Obligations.InterruptLineRisesAndFalls := by
  intro i s t h
  have hf : FlagEffect s i t := (exec_performs i s t h).flagEffect
  have hq : QueueEffect s i t := (exec_performs i s t h).queueEffect
  exact ⟨irq_of_raising hf hq, raising_of_irq hf hq, irq_of_fails hf hq,
    fun hs => ⟨lowers_of_irq_falls hf hq hs, irq_falls_of_lowers hf hq⟩⟩

end Sys2Proof.Machine
end

section
/-! Frames over every operation: the sector register, the bytes, `attached`, and the model's own fields. -/

namespace Sys2Proof.Machine

variable {s t : State} {i : Instr}

/-- The sector register is written by `WR BLK_SECTOR` and by what replaces the controller (R33). -/
theorem Performs.sectorRegister_cases (h : Performs s i t) :
    t.sectorRegister = s.sectorRegister ∨ i = .wrBlkSector t.sectorRegister ∨
      i = .attach ∨ i = .detach ∨ i = .reset := by
  cases h with
  | wrBlkSector => exact .inr (.inl rfl)
  | attachOpened => exact .inr (.inr (.inl rfl))
  | detachOpen => exact .inr (.inr (.inr (.inl rfl)))
  | reset => exact .inr (.inr (.inr (.inr rfl)))
  | readFails _ _ u hu => exact .inl (by rcases hu with rfl | rfl <;> rfl)
  | _ => exact .inl rfl

/-- A sector command that finds `busy` set changes `error` alone (R147). -/
theorem Performs.eq_setError_of_busy (h : Performs s i t) (hb : s.busy = true) (hi : SectorCommand i) :
    t = s.setError.respond .nothing := by
  cases h with
  | readBusy | writeBusy => rfl
  | readOk hn | readFails hn | writeOk hn | writeFails hn | writeDetached hn => simp [hn] at hb
  | _ => simp [SectorCommand] at hi

/-- Settles O16. -/
theorem noCommandChangesTheSectorRegister : Obligations.NoCommandChangesTheSectorRegister := by
  intro i s t h
  have hp : Performs s i t := exec_performs i s t h
  refine ⟨fun hne => ?_, fun hb hi => ?_⟩
  · obtain hkept | hwritten | hreplaced := hp.sectorRegister_cases
    · exact absurd hkept hne
    · exact .inl ⟨_, hwritten, rfl⟩
    · exact .inr hreplaced
  · rw [hp.eq_setError_of_busy hb hi]
    exact ⟨rfl, rfl⟩

/-- The buffer changes at a data write, a read command, and where it becomes unspecified. -/
theorem Performs.buf_cases (h : Performs s i t) :
    t.buf = s.buf ∨ (∃ w, i = .wrBlkData w) ∨ i = .wrBlkCommandReadSector ∨ i = .attach ∨ i = .detach ∨
      i = .reset := by
  cases h with
  | wrBlkDataInside w => exact .inr (.inl ⟨w, rfl⟩)
  | readBusy | readOk | readFails | attachOpened | detachOpen | reset => simp
  | _ => exact .inl rfl

/-- Settles O52. -/
theorem onlyStoresChangeBytes : Obligations.OnlyStoresChangeBytes := by
  intro i s t h
  have hp : Performs s i t := exec_performs i s t h
  refine ⟨fun hw hr ha hd hrst k => ?_, fun hi x => ?_⟩
  · obtain hbuf | ⟨w, hw'⟩ | hother := hp.buf_cases
    · rw [hbuf]
    · exact absurd hw' (hw w)
    · simp [hr, ha, hd, hrst] at hother
  · obtain hm | ⟨hi', -⟩ := hp.mediumBytes_cases
    · rw [hm]
    · exact absurd hi' hi

/-- Settles O53: the three operations that write `attached`, each with its direction. -/
theorem onlyTheHostAttaches : Obligations.OnlyTheHostAttaches := by
  intro i s t h hne
  cases exec_performs i s t h with
  | attachOpened => exact .inl ⟨rfl, rfl, rfl⟩
  | detachOpen => exact .inr ⟨.inl rfl, rfl⟩
  | reset => exact .inr ⟨.inr rfl, rfl⟩
  | readFails _ _ u hu => rcases hu with rfl | rfl <;> exact absurd rfl hne
  | _ => exact absurd rfl hne

/-- A draw of an answer counts up at most. -/
theorem State.draws_le_takeAnswer (s : State) : s.draws ≤ s.takeAnswer.draws := by
  rw [State.takeAnswer_draws]
  split <;> omega

/-- Settles O54: of the operations, only the dispatched sector commands and ATTACH draw. -/
theorem operationsLeaveTheAgentsSequence : Obligations.OperationsLeaveTheAgentsSequence := by
  intro i s t h
  have hdraw := s.draws_le_takeAnswer
  cases exec_performs i s t h with
  | readOk | writeOk | attachFailed => exact ⟨rfl, .inr rfl, hdraw⟩
  | writeFails | attachOpened => exact ⟨rfl, .inr rfl, Nat.le_succ_of_le hdraw⟩
  | readFails _ _ u hu =>
    obtain rfl | rfl := hu
    · exact ⟨rfl, .inl rfl, Nat.le_succ _⟩
    · exact ⟨rfl, .inr rfl, Nat.le_succ_of_le hdraw⟩
  | detachOpen => exact ⟨rfl, .inl rfl, Nat.le_succ _⟩
  | reset d hd => exact ⟨rfl, .inl rfl, Nat.le_succ_of_le hd⟩
  | _ => exact ⟨rfl, .inl rfl, Nat.le_refl _⟩

end Sys2Proof.Machine
end

section
/-! The command register (spec/41_block_device.md sections 2 and 5): what each command answers, case by case, and the
controller's phases. -/

namespace Sys2Proof.Machine

variable (s : State)

/-! ## What a command answers -/

theorem exec_wrBlkCommandAckInterrupt :
    exec .wrBlkCommandAckInterrupt s = .next (s.acknowledge.respond .nothing) := rfl

theorem exec_wrBlkCommandMalformed (wdata : Word) :
    exec (.wrBlkCommandMalformed wdata) s = .next (s.respond .nothing) := rfl

theorem exec_wrBlkCommandReadSector : exec .wrBlkCommandReadSector s =
    .next ((s.sectorCommand (State.readSector Config.params)).respond .nothing) := rfl

theorem exec_wrBlkCommandWriteSector : exec .wrBlkCommandWriteSector s =
    .next ((s.sectorCommand (State.writeSector Config.params)).respond .nothing) := rfl

section
variable {s}

theorem exec_sectorCommand_busy {i : Instr} (hb : s.busy = true) (hi : SectorCommand i) :
    exec i s = .next (s.setError.respond .nothing) := by
  obtain rfl | rfl := hi
  · rw [exec_wrBlkCommandReadSector, s.sectorCommand_busy _ hb]
  · rw [exec_wrBlkCommandWriteSector, s.sectorCommand_busy _ hb]

/-- A read from an attached store that does not succeed is rejected, with the answer used up (R123). -/
theorem State.mediumRead_rejected (P : Config.Params) (s : State) (index : Word) (hp : P.autoExtend = false)
    (ha : s.attached = true)
    (hf : s.nextAnswer = false ∨ ¬ sectorOffset index + Config.sectorSize ≤ s.mediumBytes.len) :
    ∃ k, s.mediumRead P index = (.error k, s.takeAnswer) := by
  simp only [State.mediumRead, ha, hp, Bool.false_eq_true, ↓reduceIte]
  split_ifs with hn hl
  · simp [hn, hl] at hf
  all_goals exact ⟨_, rfl⟩

/-- `READ_SECTOR` that succeeds (R144, R123). -/
theorem exec_readSector_ok (hb : s.busy = false) (ha : s.attached = true) (hn : s.nextAnswer = true)
    (hl : s.SectorInside) : exec .wrBlkCommandReadSector s = .next { s with
      buf := s.mediumBytes.sectorAt (sectorOffset s.sectorRegister), dataPointer := 0
      pendingCount := min (s.pendingCount + 1) (2 ^ 32 - 1), response := .nothing
      answers := s.takeAnswer.answers, draws := s.takeAnswer.draws } := by
  rw [exec_wrBlkCommandReadSector, s.sectorCommand_ready _ hb, s.readSector_ok _ ha hn (s.sectorInside_iff.mp hl), hb]
  rfl

/-- `READ_SECTOR` with no store attached (R148). -/
theorem exec_readSector_detached (hb : s.busy = false) (ha : s.attached = false) :
    exec .wrBlkCommandReadSector s = .next { s with
      buf := Config.freeSector s.draws, dataPointer := 0, error := true, response := .nothing
      draws := s.draws + 1 } := by
  rw [exec_wrBlkCommandReadSector, s.sectorCommand_ready _ hb, State.readSector,
    s.beginDispatch.mediumRead_detached _ _ ha, hb]
  rfl

/-- `READ_SECTOR` that the environment or the end of the medium fails (R144). -/
theorem exec_readSector_rejected (hb : s.busy = false) (ha : s.attached = true)
    (hf : s.nextAnswer = false ∨ ¬ s.SectorInside) : exec .wrBlkCommandReadSector s = .next { s with
      buf := Config.freeSector s.takeAnswer.draws, dataPointer := 0, error := true, response := .nothing
      answers := s.takeAnswer.answers, draws := s.takeAnswer.draws + 1 } := by
  rw [s.sectorInside_iff] at hf
  obtain ⟨k, hk⟩ := s.beginDispatch.mediumRead_rejected Config.params s.sectorRegister rfl ha hf
  rw [exec_wrBlkCommandReadSector, s.sectorCommand_ready _ hb, State.readSector, hk, hb]
  rfl

/-- `WRITE_SECTOR` that succeeds (R145, R124). -/
theorem exec_writeSector_ok (hb : s.busy = false) (ha : s.attached = true) (hn : s.nextAnswer = true) :
    exec .wrBlkCommandWriteSector s = .next { s with
      medium := some (s.mediumBytes.storeSector (sectorOffset s.sectorRegister) s.buf), dataPointer := 0
      pendingCount := min (s.pendingCount + 1) (2 ^ 32 - 1), response := .nothing
      answers := s.takeAnswer.answers, draws := s.takeAnswer.draws } := by
  rw [exec_wrBlkCommandWriteSector, s.sectorCommand_ready _ hb, s.writeSector_ok _ ha hn, hb]
  rfl

/-- `WRITE_SECTOR` that the environment fails (R145, U3). -/
theorem exec_writeSector_failed (hb : s.busy = false) (ha : s.attached = true) (hn : s.nextAnswer = false) :
    exec .wrBlkCommandWriteSector s = .next { s with
      medium := some (s.mediumBytes.failedStore (sectorOffset s.sectorRegister) s.takeAnswer.draws)
      dataPointer := 0, error := true, response := .nothing
      answers := s.takeAnswer.answers, draws := s.takeAnswer.draws + 1 } := by
  rw [exec_wrBlkCommandWriteSector, s.sectorCommand_ready _ hb, s.writeSector_failed _ ha hn, hb]
  rfl

/-- `WRITE_SECTOR` with no store attached (R148). -/
theorem exec_writeSector_detached (hb : s.busy = false) (ha : s.attached = false) :
    exec .wrBlkCommandWriteSector s = .next { s with dataPointer := 0, error := true, response := .nothing } := by
  rw [exec_wrBlkCommandWriteSector, s.sectorCommand_ready _ hb, s.writeSector_detached _ ha, hb]
  rfl

end

/-! ## The commands, one obligation each -/

/-- A byte of a sector read from the medium, when it lies inside (R123). -/
theorem State.byte?_of_sectorInside {k : Nat} (hl : s.SectorInside) (hk : k < 512) :
    s.mediumBytes.byte? (s.sectorRegister.toNat * 512 + k) =
      some (sectorByte (s.mediumBytes.sectorAt (sectorOffset s.sectorRegister)) k) := by
  rw [Medium.sectorAt_byte _ _ _ hk, Medium.byte?, if_pos (by omega)]
  rfl

/-- Settles O17. -/
theorem readSectorSucceeds : Obligations.ReadSectorSucceeds := fun s hb ha hn hl =>
  ⟨_, _, _, exec_readSector_ok hb ha hn hl, fun _ hk => s.byte?_of_sectorInside hl hk⟩

/-- Settles O18: neither the count nor the queue is touched, so the line stays. -/
theorem readSectorFails : Obligations.ReadSectorFails := by
  intro s hb hf
  cases ha : s.attached with
  | false => exact ⟨_, _, _, _, exec_readSector_detached hb ha, by rw [ha], s.irq_congr _ rfl rfl⟩
  | true =>
    have hf : s.nextAnswer = false ∨ ¬ s.SectorInside := hf.resolve_left (by simp [ha])
    exact ⟨_, _, _, _, exec_readSector_rejected hb ha hf, by rw [ha], s.irq_congr _ rfl rfl⟩

/-- A stored sector, byte by byte (R124). -/
theorem Medium.storeSector_byte?_inside (m : Medium) (off : Nat) (b : Sector) {k : Nat} (hk : k < 512) :
    (m.storeSector off b).byte? (off + k) = some (sectorByte b k) := by
  have hlen : off + k < max m.len (off + 512) := by omega
  rw [Medium.byte?, Medium.storeSector_len, Medium.storeSector_byte, if_pos hlen, Nat.add_sub_cancel_left]
  simp [hk, Config.sectorSize]

/-- A store leaves the bytes of the old medium that lie outside the sector. -/
theorem Medium.storeSector_byte?_outside (m : Medium) (off : Nat) (b : Sector) {x : Nat} (hx : x < m.len)
    (ho : x < off ∨ off + 512 ≤ x) : (m.storeSector off b).byte? x = m.byte? x := by
  have hout : ¬ (off ≤ x ∧ x < off + Config.sectorSize) := by
    simp only [Config.sectorSize]; omega
  rw [Medium.byte?, Medium.byte?, Medium.storeSector_len, Medium.storeSector_byte, if_neg hout, if_pos hx,
    if_pos (Nat.lt_of_lt_of_le hx (Nat.le_max_left _ _))]

/-- The bytes of the medium after a store: the sector, the old bytes, the zero-fill, the end (R124). -/
theorem Medium.storeSector_byte? (m : Medium) (off : Nat) (b : Sector) (hwf : m.Wf) (x : Nat) :
    (m.storeSector off b).byte? x =
      if off ≤ x ∧ x < off + 512 then some (sectorByte b (x - off))
      else if x < m.len then m.byte? x
      else if x < off then some 0#8
      else none := by
  by_cases hin : off ≤ x ∧ x < off + 512
  · have hbyte := m.storeSector_byte?_inside off b (k := x - off) (by omega)
    rwa [if_pos hin, ← Nat.add_sub_cancel' hin.1, Nat.add_sub_cancel_left]
  · rw [if_neg hin]
    by_cases hold : x < m.len
    · rw [if_pos hold, m.storeSector_byte?_outside off b hold (by omega)]
    · rw [if_neg hold, Medium.byte?, Medium.storeSector_len, Medium.storeSector_byte, if_neg hin,
        Medium.byte_beyond m x hwf (Nat.not_lt.mp hold)]
      exact if_congr (by simp only [Config.sectorSize]; omega) rfl rfl

/-- Settles O19. -/
theorem writeSectorSucceeds : Obligations.WriteSectorSucceeds := fun _ hb ha hn hwf =>
  ⟨_, _, _, exec_writeSector_ok hb ha hn, Medium.storeSector_len _ _ _,
    Medium.storeSector_byte? _ _ _ hwf⟩

/-- Settles O20: the bounds of the length, and the bytes a failed write must keep. -/
theorem writeSectorFails : Obligations.WriteSectorFails := by
  intro s hb ha hn
  obtain ⟨hlow, hhigh⟩ := s.mediumBytes.failedLength_bounds (sectorOffset s.sectorRegister) s.takeAnswer.draws
  refine ⟨_, _, _, exec_writeSector_failed hb ha hn, hlow, hhigh, fun x hx hout => ?_⟩
  have hx' := Nat.lt_of_lt_of_le hx hlow
  rw [Medium.byte?, Medium.byte?, Medium.failedStore_byte _ _ _ _ hx hout, if_pos hx, Medium.failedStore,
    if_pos hx']

/-- Settles O21. -/
theorem writeSectorWithoutStoreFails : Obligations.WriteSectorWithoutStoreFails :=
  fun _ hb ha => exec_writeSector_detached hb ha

/-- Settles O22. -/
theorem sectorCommandWhileBusyIsRejected : Obligations.SectorCommandWhileBusyIsRejected :=
  fun _ hb => ⟨exec_sectorCommand_busy hb (.inl rfl), exec_sectorCommand_busy hb (.inr rfl)⟩

/-- Settles O23: subtraction on the natural numbers has floor 0. -/
theorem acknowledgeTakesOneCompletion : Obligations.AcknowledgeTakesOneCompletion := by
  refine fun s => ⟨fun hzero => ?_, fun n hn => ?_⟩
  · rw [exec_wrBlkCommandAckInterrupt, State.acknowledge, hzero]
    rfl
  · rw [exec_wrBlkCommandAckInterrupt, State.acknowledge, hn]
    rfl

/-- A write of the command register whose value is no command code (R149). -/
theorem busWrite_malformed (wdata : Word) (h : ¬ Config.params.IsCommand wdata) :
    busWrite Config.params.addrBlkCommand wdata s = .next (s.respond .nothing) := by
  have hsel : selectWrite Config.params Config.params.addrBlkCommand wdata = selectCommand Config.params wdata :=
    rfl
  rw [busWrite, hsel, selectCommand_of_not_isCommand h, exec_wrBlkCommandMalformed]

/-- Settles O24. -/
theorem malformedCommandIsIgnored : Obligations.MalformedCommandIsIgnored := by
  intro s wdata h1 h2 h3
  have hno : ¬ Config.params.IsCommand wdata := by
    rw [isCommand_iff]
    rintro (h | h | h)
    · exact h1 h
    · exact h2 h
    · exact h3 h
  exact ⟨busWrite_malformed s wdata hno, exec_wrBlkCommandMalformed s wdata⟩

/-! ## Phases (R160) -/

section
variable {s} {t : State} {i : Instr}

theorem State.phase_of_busy (h : s.busy = true) : s.phase = .busy := by simp [State.phase, h]

theorem State.phase_of_ready (h : s.busy = false) : s.phase =
    match s.interruptPendingBit, s.error with
    | false, false => .idle
    | true, false => .doneOk
    | false, true => .doneError
    | true, true => .doneBoth :=
  if_neg (by simp [h])

theorem State.interruptPendingBit_congr (hc : t.pendingCount = s.pendingCount) :
    t.interruptPendingBit = s.interruptPendingBit := by
  rw [State.interruptPendingBit, State.interruptPendingBit, hc]

/-- A command that succeeds leaves `busy` 0, `error` kept and a completion pending. -/
theorem FlagEffect.phase_of_succeeds (h : FlagEffect s i t) (hs : s.CommandSucceeds i) :
    t.phase = s.phase.afterSuccess := by
  have hb : s.busy = false := hs.2.1
  obtain ⟨herr, hcount⟩ := h.of_succeeds hs
  have hbit : t.interruptPendingBit = true := t.interruptPendingBit_iff.mpr (by omega)
  rw [State.phase_of_ready hb, State.phase_of_ready (h.busy_eq_false hb), hbit, herr]
  cases s.interruptPendingBit <;> cases s.error <;> rfl

/-- A command that fails leaves `busy` 0, `error` set and the count kept. -/
theorem FlagEffect.phase_of_fails (h : FlagEffect s i t) (hb : s.busy = false) (hf : s.CommandFails i) :
    t.phase = s.phase.afterFailure := by
  obtain ⟨herr, hcount⟩ := h.of_fails hf
  rw [State.phase_of_ready hb, State.phase_of_ready (h.busy_eq_false hb), herr,
    State.interruptPendingBit_congr hcount]
  cases s.interruptPendingBit <;> cases s.error <;> rfl

end

/-- A dispatched sector command, as phases; `c` is the condition under which the store carries it out. -/
theorem exec_sectorCommand_phase (i : Instr) (hi : SectorCommand i) (hb : s.busy = false) (c : Prop) [Decidable c]
    (hc : c ↔ s.StoreOk i) :
    ∃ t, exec i s = .next t ∧ t.phase = if c then s.phase.afterSuccess else s.phase.afterFailure := by
  have hbus : i.agent = .busMaster := by rcases hi with rfl | rfl <;> rfl
  obtain ⟨t, h⟩ := exec_answers_of_busMaster i s hbus
  have hf : FlagEffect s i t := (exec_performs i s t h).flagEffect
  refine ⟨t, h, ?_⟩
  split_ifs with hok
  · exact hf.phase_of_succeeds ⟨hi, hb, hc.mp hok⟩
  · exact hf.phase_of_fails hb ⟨hi, .inr (mt hc.mpr hok)⟩

theorem acknowledge_phase : (s.acknowledge.respond .nothing).phase =
    if s.busy = true then .busy else if s.pendingCount ≤ 1 then .idle else .doneOk := by
  by_cases hb : s.busy = true
  · rw [if_pos hb]
    exact State.phase_of_busy hb
  · have hready : (s.acknowledge.respond .nothing).busy = false := by simpa using hb
    have hbit : (s.acknowledge.respond .nothing).interruptPendingBit = !decide (s.pendingCount ≤ 1) := by
      simp [State.interruptPendingBit, ← decide_not]
    rw [if_neg hb, State.phase_of_ready hready, hbit]
    by_cases hc : s.pendingCount ≤ 1 <;> simp [hc]

/-- Settles O25: the sector commands by how they end, the acknowledgment by what is left pending. -/
theorem controllerPhaseTransitions : Obligations.ControllerPhaseTransitions := by
  intro s
  refine ⟨fun hb => exec_sectorCommand_phase s _ (.inl rfl) hb _ ?_,
    fun hb => exec_sectorCommand_phase s _ (.inr rfl) hb _ ?_,
    ⟨_, exec_wrBlkCommandAckInterrupt s, acknowledge_phase s⟩,
    fun w => ⟨_, exec_wrBlkCommandMalformed s w, rfl⟩, fun hb i hi => ?_⟩
  · simp [State.StoreOk]
  · simp [State.StoreOk]
  · exact ⟨_, exec_sectorCommand_busy hb hi, State.phase_of_busy hb, rfl⟩

end Sys2Proof.Machine
end

section
/-! The data port (spec/41_block_device.md section 3, spec/20_memory.md R66): the four bytes of a word in the buffer,
one access, and a sequence of accesses. -/

namespace Sys2Proof.Machine

/-! ## A word's bytes -/

theorem byteOf_toNat (w : Word) (k : Nat) : (byteOf w k).toNat = w.toNat / 2 ^ (8 * k) % 2 ^ 8 := by
  simp [byteOf, Nat.shiftRight_eq_div_pow]

/-- Bytes laid out side by side, as a number. -/
theorem append_toNat {m n : Nat} (a : BitVec m) (b : BitVec n) : (a ++ b).toNat = 2 ^ n * a.toNat + b.toNat := by
  rw [BitVec.toNat_append, ← Nat.shiftLeft_add_eq_or_of_lt b.isLt, Nat.shiftLeft_eq, Nat.mul_comm]

/-- The little-endian word as a number (D10). -/
theorem joinBytes_little_toNat (b0 b1 b2 b3 : Byte) : (joinBytes .little b0 b1 b2 b3).toNat =
    b0.toNat + 2 ^ 8 * b1.toNat + 2 ^ 16 * b2.toNat + 2 ^ 24 * b3.toNat := by
  simp only [joinBytes, append_toNat]
  omega

/-- The bytes of a word, put together again, are the word. -/
theorem append_byteOf (w : Word) : byteOf w 3 ++ (byteOf w 2 ++ (byteOf w 1 ++ byteOf w 0)) = w := by
  apply BitVec.eq_of_toNat_eq
  simp only [append_toNat, byteOf_toNat]
  omega

/-- The bytes a word is laid out as give it back, in either order. -/
theorem joinBytes_laneByte (o : Config.ByteOrder) (w : Word) :
    joinBytes o (laneByte o w 0) (laneByte o w 1) (laneByte o w 2) (laneByte o w 3) = w := by
  cases o <;> exact append_byteOf w

/-! ## A word of the buffer -/

theorem sectorByte_bufWriteWord_inside (o : Config.ByteOrder) (b : Sector) (p : Nat) (w : Word) (k : Nat)
    (hk : k < 4) (hp : p + 4 ≤ 512) : sectorByte (bufWriteWord o b p w) (p + k) = laneByte o w k := by
  rw [sectorByte_bufWriteWord _ _ _ _ _ (by omega), if_pos (by omega), Nat.add_sub_cancel_left]

theorem sectorByte_bufWriteWord_outside (o : Config.ByteOrder) (b : Sector) (p : Nat) (w : Word) (k : Nat)
    (hk : k < p ∨ p + 4 ≤ k) : sectorByte (bufWriteWord o b p w) k = sectorByte b k := by
  by_cases hb : k < 512
  · rw [sectorByte_bufWriteWord _ _ _ _ _ hb, if_neg (by omega)]
  · rw [sectorByte_beyond _ _ (by omega), sectorByte_beyond _ _ (by omega)]

theorem bufReadWord_bufWriteWord (o : Config.ByteOrder) (b : Sector) (p : Nat) (w : Word) (hp : p + 4 ≤ 512) :
    bufReadWord o (bufWriteWord o b p w) p = w := by
  have hlane (k : Nat) (hk : k < 4) := sectorByte_bufWriteWord_inside o b p w k hk hp
  rw [bufReadWord, hlane 1 (by decide), hlane 2 (by decide), hlane 3 (by decide)]
  exact (congrArg (joinBytes o · _ _ _) (hlane 0 (by decide))).trans (joinBytes_laneByte o w)

/-- Settles O28. -/
theorem bufferWordReadsBack : Obligations.BufferWordReadsBack := fun o b p w hp =>
  ⟨bufReadWord_bufWriteWord o b p w hp, sectorByte_bufWriteWord_outside o b p w⟩

/-- A word of the buffer depends on its four bytes alone. -/
theorem bufReadWord_congr (o : Config.ByteOrder) (b c : Sector) (p : Nat)
    (h : ∀ k, p ≤ k → k < p + 4 → sectorByte b k = sectorByte c k) : bufReadWord o b p = bufReadWord o c p := by
  simp (disch := omega) only [bufReadWord, h]

/-! ## One access -/

section
variable {s : State}

theorem exec_rdBlkData_inside (h : s.dataPointer < 512) : exec .rdBlkData s =
    .next (State.respond { s with dataPointer := s.dataPointer + 4 }
      (.data (bufReadWord .little s.buf s.dataPointer))) := by
  simp only [exec, execRdBlkData, s.dataRead_inside Config.params h]
  rfl

theorem exec_rdBlkData_exhausted (h : 512 ≤ s.dataPointer) :
    exec .rdBlkData s = .next (s.respond (.data Config.sentinel)) := by
  simp only [exec, execRdBlkData, s.dataRead_exhausted Config.params h]

theorem exec_wrBlkData_inside (wdata : Word) (h : s.dataPointer < 512) : exec (.wrBlkData wdata) s =
    .next (State.respond { s with
      buf := bufWriteWord .little s.buf s.dataPointer wdata, dataPointer := s.dataPointer + 4 } .nothing) := by
  simp only [exec, execWrBlkData, s.dataWrite_inside Config.params wdata h]
  rfl

theorem exec_wrBlkData_exhausted (wdata : Word) (h : 512 ≤ s.dataPointer) :
    exec (.wrBlkData wdata) s = .next (s.respond .nothing) := by
  simp only [exec, execWrBlkData, s.dataWrite_exhausted Config.params wdata h]

end

/-- Settles O26. -/
theorem blkDataRead : Obligations.BlkDataRead := fun _ =>
  ⟨fun h => ⟨_, exec_rdBlkData_inside h, joinBytes_little_toNat _ _ _ _⟩, exec_rdBlkData_exhausted⟩

/-- Settles O27. -/
theorem blkDataWrite : Obligations.BlkDataWrite := by
  refine fun s wdata =>
    ⟨fun h => ⟨_, exec_wrBlkData_inside wdata h, fun k hk => ?_⟩, exec_wrBlkData_exhausted wdata⟩
  rw [sectorByte_bufWriteWord _ _ _ _ _ hk]
  split_ifs
  · exact byteOf_toNat _ _
  · rfl

/-! ## A sequence of accesses -/

theorem execAll_cons {i : Instr} {rest : List Instr} {s t : State} (h : exec i s = .next t) :
    execAll (i :: rest) s = execAll rest t := by
  simp [execAll, h]

section
variable {s : State} {m : Nat}

/-- One read at word `m` of the buffer, or past its end. -/
theorem exec_rdBlkData_at (hp : s.dataPointer = min (4 * m) 512) : exec .rdBlkData s = .next { s with
    dataPointer := min (4 * (m + 1)) 512
    response := .data (if m < 128 then bufReadWord .little s.buf (4 * m) else Config.sentinel) } := by
  by_cases hm : m < 128
  · have hpm : s.dataPointer = 4 * m := by omega
    rw [exec_rdBlkData_inside (by omega), if_pos hm, hpm, Nat.min_eq_left (by omega)]
    rfl
  · have hpm : s.dataPointer = 512 := by omega
    rw [exec_rdBlkData_exhausted (by omega), if_neg hm, Nat.min_eq_right (by omega), ← hpm]
    rfl

/-- One write at word `m` of the buffer, or past its end: the word lands there, and no other byte changes. -/
theorem exec_wrBlkData_at (wdata : Word) (hp : s.dataPointer = min (4 * m) 512) :
    ∃ b : Sector, exec (.wrBlkData wdata) s = .next { s with
        buf := b, dataPointer := min (4 * (m + 1)) 512, response := .nothing } ∧
      (m < 128 → bufReadWord .little b (4 * m) = wdata) ∧
      ∀ k, (k < 4 * m ∨ 4 * m + 4 ≤ k) → sectorByte b k = sectorByte s.buf k := by
  by_cases hm : m < 128
  · have hpm : s.dataPointer = 4 * m := by omega
    refine ⟨bufWriteWord .little s.buf (4 * m) wdata, ?_,
      fun _ => bufReadWord_bufWriteWord _ _ _ _ (by omega), sectorByte_bufWriteWord_outside _ _ _ _⟩
    rw [exec_wrBlkData_inside wdata (by omega), hpm, Nat.min_eq_left (by omega)]
    rfl
  · have hpm : s.dataPointer = 512 := by omega
    refine ⟨s.buf, ?_, fun h => absurd h hm, fun _ _ => rfl⟩
    rw [exec_wrBlkData_exhausted wdata (by omega), Nat.min_eq_right (by omega), ← hpm]
    rfl

end

/-- The reads from word `m` on: each returns the word at the pointer until the buffer is exhausted. -/
theorem execAll_rdBlkData (n : Nat) (s : State) (m : Nat) (hp : s.dataPointer = min (4 * m) 512) :
    execAll (List.replicate (n + 1) .rdBlkData) s = .next { s with
      dataPointer := min (4 * (m + n + 1)) 512
      response := .data (if m + n < 128 then bufReadWord .little s.buf (4 * (m + n)) else Config.sentinel) } := by
  induction n generalizing s m with
  | zero => exact execAll_cons (exec_rdBlkData_at hp)
  | succ n ih =>
    rw [List.replicate_succ, execAll_cons (exec_rdBlkData_at hp), ih _ (m + 1) rfl, Nat.add_right_comm m 1 n]
    rfl

/-- Settles O29: the reads from word 0 on. -/
theorem dataReadsStreamTheBuffer : Obligations.DataReadsStreamTheBuffer := by
  intro s n hp
  have h := execAll_rdBlkData n s 0 (by simp [hp])
  rwa [Nat.zero_add] at h

/-- The writes from word `m` on: each word lands at its place, and no byte outside those places changes. -/
theorem execAll_wrBlkData (words : List Word) (s : State) (m : Nat) (hp : s.dataPointer = min (4 * m) 512) :
    ∃ (b : Sector) (r : Response),
      execAll (words.map .wrBlkData) s = .next { s with
        buf := b, dataPointer := min (4 * (m + words.length)) 512, response := r } ∧
      (∀ (j : Nat) (h : j < words.length), m + j < 128 → bufReadWord .little b (4 * (m + j)) = words[j]) ∧
      ∀ k, (k < 4 * m ∨ 4 * (m + words.length) ≤ k) → sectorByte b k = sectorByte s.buf k := by
  induction words generalizing s m with
  | nil =>
    refine ⟨s.buf, s.response, ?_, nofun, fun _ _ => rfl⟩
    rw [List.length_nil, Nat.add_zero, ← hp]
    rfl
  | cons w ws ih =>
    obtain ⟨c, hstep, hword, hother⟩ := exec_wrBlkData_at w hp
    obtain ⟨b, r, hrun, hwords, hkept⟩ := ih { s with
      buf := c, dataPointer := min (4 * (m + 1)) 512, response := .nothing } (m + 1) rfl
    have hsame (k : Nat) (hk : k < 4 * (m + 1)) : sectorByte b k = sectorByte c k := hkept k (.inl hk)
    refine ⟨b, r, ?_, fun j hj hin => ?_, fun k hk => ?_⟩
    · rw [List.map_cons, execAll_cons hstep, hrun, List.length_cons, Nat.add_right_comm m 1, Nat.add_assoc m]
    · cases j with
      | zero =>
        rw [Nat.add_zero, bufReadWord_congr _ b c _ fun k _ hk => hsame k (by omega)]
        exact hword hin
      | succ j =>
        rw [show m + (j + 1) = m + 1 + j by omega]
        exact hwords j (Nat.lt_of_succ_lt_succ hj) (by omega)
    · rw [List.length_cons] at hk
      rw [hkept k (by omega)]
      exact hother k (by omega)

/-- Settles O30: the writes from word 0 on. -/
theorem dataWritesFillTheBuffer : Obligations.DataWritesFillTheBuffer := by
  intro s words hp
  obtain ⟨b, r, hrun, hwords, hkept⟩ := execAll_wrBlkData words s 0 (by simp [hp])
  simp only [Nat.zero_add] at hrun hwords hkept
  exact ⟨b, r, hrun, hwords, fun k hk => hkept k (.inr hk)⟩

end Sys2Proof.Machine
end

section
/-! ATTACH, DETACH and RESET (spec/40_backing_store.md section 1, spec/70_reset_and_hazards.md R250): what each
answers. -/

namespace Sys2Proof.Machine

variable {s : State}

/-- ATTACH that the environment lets succeed (R120). -/
theorem exec_attach_opened (ha : s.attached = false) (hn : s.nextAnswer = true) : exec .attach s = .next { s with
    attached := true, medium := some s.mediumBytes, busy := false, error := false, pendingCount := 0
    sectorRegister := 0#32, dataPointer := 0, buf := Config.freeSector s.takeAnswer.draws, response := .opened
    answers := s.answers.tail, draws := s.takeAnswer.draws + 1 } := by
  rw [exec, execAttach, if_neg (by simp [ha]), s.attachMedium_opened hn]
  rfl

theorem exec_attach_failed (ha : s.attached = false) (hn : s.nextAnswer = false) :
    exec .attach s = .next (s.takeAnswer.respond (.failed .openFailed)) := by
  rw [exec, execAttach, if_neg (by simp [ha]), s.attachMedium_failed hn]

theorem exec_detach_detached (ha : s.attached = false) : exec .detach s = .next (s.respond .nothing) := by
  rw [exec, execDetach, s.detachMedium_detached ha]

/-- DETACH of an open store (R122). -/
theorem exec_detach_attached (ha : s.attached = true) : exec .detach s = .next { s with
    attached := false, busy := false, error := false, pendingCount := 0, sectorRegister := 0#32
    dataPointer := 0, buf := Config.freeSector s.draws, response := .nothing, draws := s.draws + 1 } := by
  rw [exec, execDetach, s.detachMedium_attached ha]
  rfl

/-- Settles O33: a medium that does not exist is opened with no bytes. -/
theorem attachOpensTheMedium : Obligations.AttachOpensTheMedium := by
  intro s ha hn
  refine ⟨_, _, _, _, exec_attach_opened ha hn, fun hnone => ?_, fun m hm => s.mediumBytes_some m hm⟩
  have hempty : s.mediumBytes = Medium.empty := by rw [State.mediumBytes, hnone]; rfl
  rw [hempty]
  exact ⟨rfl, fun x => if_neg (Nat.not_lt_zero x)⟩

/-- Settles O34: only the answer is used up. -/
theorem failedAttachChangesNothing : Obligations.FailedAttachChangesNothing :=
  fun _ ha hn => ⟨_, _, exec_attach_failed ha hn⟩

/-- Settles O35. -/
theorem attachWhileAttachedIsRefused : Obligations.AttachWhileAttachedIsRefused :=
  fun _ ha => if_pos ha

/-- Settles O36. -/
theorem detachClosesTheMedium : Obligations.DetachClosesTheMedium :=
  fun _ => ⟨exec_detach_detached, fun ha => ⟨_, _, exec_detach_attached ha⟩⟩

/-- What a DETACH leaves, open or closed before. -/
theorem exec_detach (s : State) :
    ∃ t, exec .detach s = .next t ∧ t.attached = false ∧ t.medium = s.medium ∧ t.answers = s.answers ∧
      t.response = .nothing := by
  cases ha : s.attached with
  | false => exact ⟨_, exec_detach_detached ha, ha, rfl, rfl, rfl⟩
  | true => exact ⟨_, exec_detach_attached ha, rfl, rfl, rfl, rfl⟩

/-- DETACH of a closed store that has answered nothing changes nothing at all. -/
theorem execAll_detach_of_detached (n : Nat) (ha : s.attached = false) (hr : s.response = .nothing) :
    execAll (List.replicate n .detach) s = .next s := by
  have hsame : s.respond .nothing = s := by rw [← hr]; rfl
  induction n with
  | zero => rfl
  | succ n ih => rw [List.replicate_succ, execAll_cons (exec_detach_detached ha), hsame, ih]

/-- Settles O37: the first DETACH leaves the store closed, and there the others change nothing. -/
theorem detachIsIdempotent : Obligations.DetachIsIdempotent := by
  intro s n
  obtain ⟨t, h, ha, hm, -, hr⟩ := exec_detach s
  refine ⟨?_, t, h, ha, hm⟩
  rw [List.replicate_succ, execAll_cons h, execAll_detach_of_detached n ha hr, h]

/-- Settles O55: RESET leaves what construction of a detached block leaves, for some count of draws. -/
theorem resetOperation : Obligations.ResetOperation := by
  intro s
  obtain ⟨d, hd⟩ := s.resetBlock_cases
  refine ⟨Config.freeSector d, d + 1, ?_⟩
  rw [exec, execReset, hd]
  rfl

/-- Settles O56: the status reads of a state whose flags are 0. -/
theorem stateAfterReset : Obligations.StateAfterReset :=
  ⟨rfl, rfl, rfl, rfl, rfl, rfl, rfl, rfl, rfl, rfl, rfl⟩

end Sys2Proof.Machine
end

section
/-! The medium keeps what is written (spec/40_backing_store.md R125, R127). -/

namespace Sys2Proof.Machine

variable {s : State}

/-- What a `WRITE_SECTOR` that succeeds leaves for the operations after it. -/
theorem exec_writeSector_stores (hb : s.busy = false) (ha : s.attached = true) (hn : s.nextAnswer = true) :
    ∃ t, exec .wrBlkCommandWriteSector s = .next t ∧ t.busy = false ∧ t.attached = true ∧ t.error = s.error ∧
      t.sectorRegister = s.sectorRegister ∧ t.answers = s.answers.tail ∧
      t.medium = some (s.mediumBytes.storeSector (sectorOffset s.sectorRegister) s.buf) :=
  ⟨_, exec_writeSector_ok hb ha hn, hb, ha, rfl, rfl, rfl, rfl⟩

/-- A sector just stored lies inside the medium, and reading it gives the sector stored. -/
theorem exec_readSector_of_stored {t : State} {m : Medium} {b : Sector} (hb : t.busy = false)
    (ha : t.attached = true) (hn : t.nextAnswer = true)
    (hm : t.medium = some (m.storeSector (sectorOffset t.sectorRegister) b)) :
    ∃ u, exec .wrBlkCommandReadSector t = .next u ∧ u.buf = b ∧ u.error = t.error ∧
      u.answers = t.answers.tail := by
  have hbytes : t.mediumBytes = m.storeSector (sectorOffset t.sectorRegister) b := t.mediumBytes_some _ hm
  have hl : t.SectorInside := by
    rw [t.sectorInside_iff, hbytes, Medium.storeSector_len]
    exact Nat.le_max_right _ _
  refine ⟨_, exec_readSector_ok hb ha hn hl, ?_, rfl, rfl⟩
  rw [hbytes]
  exact Medium.sectorAt_storeSector _ _ _

/-- Settles O31: the buffer between the two commands is not what the read command looks at. -/
theorem sectorRoundTrip : Obligations.SectorRoundTrip := by
  intro s rest hb ha hans
  obtain ⟨t, hwrite, htb, hta, hte, htr, htans, htm⟩ :=
    exec_writeSector_stores hb ha (s.nextAnswer_cons true _ hans)
  refine ⟨t, hwrite, fun c => ?_, fun j k hj hk hl => ?_⟩
  · have htn : t.nextAnswer = true := t.nextAnswer_cons true rest (by rw [htans, hans]; rfl)
    obtain ⟨u, hread, hbuf, herr, hanswers⟩ := exec_readSector_of_stored (t := { t with buf := c })
      htb hta htn (htr ▸ htm)
    exact ⟨u, hread, hbuf, herr.trans hte, by rw [hanswers, htans, hans]; rfl⟩
  · rw [t.mediumBytes_some _ htm]
    have hne : j.toNat ≠ s.sectorRegister.toNat := fun h => hj (BitVec.eq_of_toNat_eq h)
    refine Medium.storeSector_byte?_outside _ _ _ (by omega) ?_
    simp only [sectorOffset, Config.sectorSize]
    omega

/-- What an ATTACH that succeeds leaves for the operations after it. -/
theorem exec_attach_opens (ha : s.attached = false) (hn : s.nextAnswer = true) :
    ∃ t, exec .attach s = .next t ∧ t.busy = false ∧ t.attached = true ∧ t.answers = s.answers.tail ∧
      t.medium = some s.mediumBytes :=
  ⟨_, exec_attach_opened ha hn, rfl, rfl, rfl, rfl⟩

/-- While detached, only ATTACH can change the medium. -/
theorem Performs.medium_of_detached {t : State} {i : Instr} (h : Performs s i t) (ha : s.attached = false)
    (hi : i ≠ .attach) : t.medium = s.medium := by
  cases h with
  | attachOpened => exact absurd rfl hi
  | writeOk _ h | writeFails _ h => simp [ha] at h
  | readFails _ _ u hu => rcases hu with rfl | rfl <;> rfl
  | _ => rfl

/-- Settles O32: the write, the DETACH, the ATTACH and the read, one after the other. -/
theorem mediumPersistsAcrossDetach : Obligations.MediumPersistsAcrossDetach := by
  refine ⟨fun s rest hb ha hans => ?_, fun i s t ha hi h => (exec_performs i s t h).medium_of_detached ha hi⟩
  obtain ⟨t₁, hwrite, -, ha₁, -, -, hans₁, hm₁⟩ :=
    exec_writeSector_stores hb ha (s.nextAnswer_cons true _ hans)
  obtain ⟨t₂, hdetach, ha₂, hm₂, hans₂, -⟩ := exec_detach t₁
  have hbytes := t₂.mediumBytes_some _ (hm₂.trans hm₁)
  have hans₂ : t₂.answers = true :: true :: rest := by rw [hans₂, hans₁, hans]; rfl
  obtain ⟨t₃, hattach, hb₃, ha₃, hans₃, hm₃⟩ :=
    exec_attach_opens ha₂ (t₂.nextAnswer_cons true _ hans₂)
  have hselect := exec_wrBlkSector s.sectorRegister t₃
  have hn₃ : t₃.nextAnswer = true := t₃.nextAnswer_cons true rest (by rw [hans₃, hans₂]; rfl)
  obtain ⟨u, hread, hbuf, -⟩ := exec_readSector_of_stored
    (t := State.respond { t₃ with sectorRegister := s.sectorRegister } .nothing) hb₃ ha₃ hn₃ (hbytes ▸ hm₃)
  refine ⟨t₂, u, (execAll_cons hwrite).trans (execAll_cons hdetach), fun k hk => ?_,
    (execAll_cons hattach).trans ((execAll_cons hselect).trans (execAll_cons hread)), hbuf⟩
  rw [hbytes]
  exact Medium.storeSector_byte?_inside _ _ _ hk

end Sys2Proof.Machine
end

section
/-! Register reads and wrong-direction accesses (spec/41_block_device.md section 1, spec/44_decoder.md R194, R195). -/

namespace Sys2Proof

/-- The bits of a word that has one bit in use. -/
theorem getLsbD_bitAt (n k : Nat) (b : Bool) (hn : n < 32) : (bitAt n b).getLsbD k = (decide (k = n) && b) := by
  rw [bitAt, BitVec.getLsbD_shiftLeft, BitVec.getLsbD_setWidth, BitVec.getLsbD_ofBool]
  obtain hlt | rfl | hgt := Nat.lt_trichotomy k n
  · simp [hlt, Nat.ne_of_lt hlt]
  · simp [hn]
  · simp [Nat.ne_of_gt hgt, Nat.sub_ne_zero_of_lt hgt]

end Sys2Proof

namespace Sys2Proof.Machine

theorem exec_rdBlkStatus (s : State) :
    exec .rdBlkStatus s = .next (s.respond (.data (s.blkStatus Config.params))) := rfl

/-- The status word, bit by bit (R140). -/
theorem getLsbD_blkStatus (s : State) (k : Nat) : (s.blkStatus Config.params).getLsbD k =
    (decide (k = 0) && s.busy || decide (k = 1) && s.error || decide (k = 2) && s.interruptPendingBit) := by
  have hbit (n : Nat) (b : Bool) (hn : n < 32) := getLsbD_bitAt n k b hn
  rw [State.blkStatus, BitVec.getLsbD_or, BitVec.getLsbD_or, hbit, hbit, hbit]
  · rfl
  all_goals decide

/-- Settles O13: each flag has a bit of its own. -/
theorem blkStatusReadValue : Obligations.BlkStatusReadValue := by
  refine fun s => ⟨_, exec_rdBlkStatus s, ?_, ?_, ?_, fun k hk => ?_⟩
  · rw [getLsbD_blkStatus]; simp
  · rw [getLsbD_blkStatus]; simp
  · rw [getLsbD_blkStatus]; simp [State.interruptPendingBit]
  · obtain ⟨h0, h1, h2⟩ : k ≠ 0 ∧ k ≠ 1 ∧ k ≠ 2 := by omega
    rw [getLsbD_blkStatus]; simp [h0, h1, h2]

/-- Settles O14. -/
theorem blkSectorReadValue : Obligations.BlkSectorReadValue := fun _ => rfl

/-- Settles O10: none of the four has more than its answer. -/
theorem wrongDirectionAccessesDoNothing : Obligations.WrongDirectionAccessesDoNothing :=
  fun _ _ => ⟨rfl, rfl, rfl, rfl⟩

end Sys2Proof.Machine
end

section
/-! The keyboard queue (spec/42_keyboard.md): one operation, and sequences of injections and of reads. -/

namespace Sys2Proof.Machine

/-- Settles O38. -/
theorem keyStatusReadValue : Obligations.KeyStatusReadValue := by
  refine fun s => ⟨fun hq => ?_, fun hq => ?_⟩
  · rw [exec_rdKeyStatus, State.keyStatus, s.dataAvailable_eq_false_iff.mpr hq]
    rfl
  · rw [exec_rdKeyStatus, State.keyStatus, s.dataAvailable_iff.mpr hq]
    rfl

/-- Settles O39. -/
theorem keyDataReadPopsTheHead : Obligations.KeyDataReadPopsTheHead :=
  fun s => ⟨exec_rdKeyData_nil s, exec_rdKeyData_cons s⟩

/-- A queue of 16 codes with room made for one more (R170). -/
def makeRoom (q : List Word) : List Word := if q.length = 16 then q.tail else q

theorem exec_inject_makeRoom (code : Word) (s : State) :
    exec (.inject code) s = .next { s with q := makeRoom s.q ++ [code], response := .nothing } := rfl

/-- Settles O40. -/
theorem injectAppendsOrDropsTheOldest : Obligations.InjectAppendsOrDropsTheOldest := by
  refine fun s code => ⟨fun hlt => ?_, fun oldest rest hq hlen => ?_, fun t h => ?_⟩
  · rw [exec_inject_makeRoom, makeRoom, if_neg (Nat.ne_of_lt hlt)]
  · have hfull : s.q.length = 16 := by rw [hq, List.length_cons, hlen]
    rw [exec_inject_makeRoom, makeRoom, if_pos hfull, hq, List.tail_cons]
  · have hp : Performs s (.inject code) t := exec_performs _ s t h
    exact irq_of_raising hp.flagEffect hp.queueEffect (.inl ⟨code, rfl⟩)

/-- Making room for one code drops as many as the last 16 leave out. -/
theorem makeRoom_append {q : List Word} (hq : q.length ≤ 16) (code : Word) (rest : List Word) :
    (makeRoom q ++ [code]).length ≤ 16 ∧
    (makeRoom q ++ [code] ++ rest).drop ((makeRoom q ++ [code] ++ rest).length - 16) =
      (q ++ code :: rest).drop ((q ++ code :: rest).length - 16) := by
  unfold makeRoom
  split_ifs with hfull
  · obtain ⟨oldest, newer, rfl⟩ := List.exists_cons_of_ne_nil (List.ne_nil_of_length_eq_add_one hfull)
    have hnewer : newer.length = 15 := by simpa using hfull
    refine ⟨by simp [hnewer], ?_⟩
    have hover : (newer ++ code :: rest).length + 1 - 16 = (newer ++ code :: rest).length - 16 + 1 := by
      simp; omega
    rw [List.cons_append, List.length_cons, hover, List.drop_succ_cons]
    simp
  · refine ⟨by simp; omega, by simp⟩

/-- Settles O41, by induction on the injections. -/
theorem queueKeepsTheLastSixteen : Obligations.QueueKeepsTheLastSixteen := by
  intro s codes hq
  induction codes generalizing s with
  | nil =>
    refine ⟨s.response, ?_⟩
    rw [List.append_nil, Nat.sub_eq_zero_of_le hq]
    rfl
  | cons code rest ih =>
    obtain ⟨hroom, hlast⟩ := makeRoom_append hq code rest
    obtain ⟨r, h⟩ := ih { s with q := makeRoom s.q ++ [code], response := .nothing } hroom
    refine ⟨r, ?_⟩
    rw [List.map_cons, execAll_cons (exec_inject_makeRoom code s), h, hlast]

/-- `RD KEY_DATA`, both cases in one (R171). -/
theorem exec_rdKeyData (s : State) :
    exec .rdKeyData s = .next { s with q := s.q.tail, response := .data (s.q.headD Config.sentinel) } := by
  cases hq : s.q with
  | nil => rw [exec_rdKeyData_nil s hq, List.tail_nil, ← hq]; simp [State.respond, hq]
  | cons code rest => exact exec_rdKeyData_cons s code rest hq

/-- Settles O42, by induction on the number of reads. -/
theorem queueDrainsInOrder : Obligations.QueueDrainsInOrder := by
  intro s n
  induction n generalizing s with
  | zero =>
    refine (execAll_cons (exec_rdKeyData s)).trans ?_
    cases s.q <;> rfl
  | succ n ih =>
    rw [List.replicate_succ, execAll_cons (exec_rdKeyData s), ih]
    cases s.q <;> simp

end Sys2Proof.Machine
end

section
/-! Text on the console (spec/43_console.md R180, spec/30_encoding.md R111). -/

namespace Sys2Proof.Machine

/-- Settles O43. -/
theorem consoleWriteEmitsOneByte : Obligations.ConsoleWriteEmitsOneByte :=
  fun s wdata => ⟨consoleByte wdata, exec_wrConsoleOut wdata s, BitVec.toNat_setWidth 8 wdata⟩

/-- A byte written as a word is emitted as that byte (R111). -/
theorem exec_wrConsoleOut_zext32 (c : Byte) (s : State) :
    exec (.wrConsoleOut (zext32 c)) s = .next { s with console := s.console ++ [c], response := .nothing } := by
  have hbyte : consoleByte (zext32 c) = c := by simp [consoleByte, zext32]
  rw [exec_wrConsoleOut, hbyte]
  rfl

/-- Settles O46, by induction on the text. -/
theorem putsEmitsTheText : Obligations.PutsEmitsTheText := by
  intro s text
  induction text generalizing s with
  | nil => exact ⟨s.response, by simp [Pseudo.expand, execAll]⟩
  | cons c rest ih =>
    obtain ⟨r, h⟩ := ih { s with console := s.console ++ [c], response := .nothing }
    refine ⟨r, (execAll_cons (exec_wrConsoleOut_zext32 c s)).trans (h.trans ?_)⟩
    rw [List.append_assoc, List.singleton_append]

end Sys2Proof.Machine
end

section
/-! Isolation of the devices (spec/44_decoder.md R197). -/

namespace Sys2Proof.Machine

/-! ## A bus access changes its own device alone -/

section
variable {s t : State} {i : Instr}

/-- Only an access of the console emits. -/
theorem emitted_of_owner_ne (hi : i.owner ≠ some .console) : emitted i = [] := by
  cases i with
  | wrConsoleOut => exact absurd rfl hi
  | _ => rfl

theorem Performs.sameConsole (h : Performs s i t) (hi : i.agent = .busMaster) (hd : i.owner ≠ some .console) :
    s.SameDevice .console t := by
  have hr : i ≠ .reset := by rintro rfl; cases hi
  rw [State.SameDevice, h.console_eq_append hr, emitted_of_owner_ne hd, List.append_nil]

theorem Performs.sameKeyboard (h : Performs s i t) (hi : i.agent = .busMaster) (hd : i.owner ≠ some .keyboard) :
    s.SameDevice .keyboard t := by
  refine h.queueEffect.eq_of_ne ?_ ?_ ?_
  · rintro code rfl; cases hi
  · rintro rfl; exact hd rfl
  · rintro rfl; cases hi

theorem Performs.sameBlockDevice (h : Performs s i t) (hi : i.agent = .busMaster)
    (hd : i.owner ≠ some .blockDevice) : s.SameDevice .blockDevice t := by
  cases h with
  | rdConsoleOut | wrConsoleOut | rdKeyStatus | rdKeyDataEmpty | rdKeyDataPops | wrKeyStatus | wrKeyData
  | rdUnmapped | wrUnmapped => exact ⟨⟨rfl, rfl, rfl, rfl, rfl, rfl⟩, ⟨rfl, rfl⟩, rfl, rfl⟩
  | inject | reset => cases hi
  | _ => exact absurd rfl hd

end

/-! ## A bus access sees its own device alone -/

/-- The block device of `s` among the other devices, the response and the waiting operations of `o`. -/
def State.withOthers (s o : State) : State :=
  { s with q := o.q, console := o.console, response := o.response, ops := o.ops }

/-- Two states with the same block device differ in the rest alone. -/
theorem State.eq_withOthers {s s' : State} (h : s.SameDevice .blockDevice s') : s' = s.withOthers s' := by
  obtain ⟨⟨hbusy, herror, hcount, hsector, hpointer, hbuf⟩, ⟨hattached, hmedium⟩, hanswers, hdraws⟩ := h
  rw [State.withOthers, ← hbusy, ← herror, ← hcount, ← hsector, ← hpointer, ← hbuf, ← hattached,
    ← hmedium, ← hanswers, ← hdraws]

/-- What the block device's accesses answer, and what they make of the block device, does not depend on the rest. -/
theorem exec_withOthers (i : Instr) (hi : i.agent = .busMaster) (hd : i.owner = some .blockDevice) (s o : State) :
    ∃ t, exec i s = .next t ∧ exec i (s.withOthers o) = .next ((t.withOthers o).respond t.response) := by
  cases i with
  | rdConsoleOut | rdKeyStatus | rdKeyData | wrConsoleOut | wrKeyStatus | wrKeyData | rdUnmapped | wrUnmapped =>
    cases hd
  | inject | attach | detach | reset => cases hi
  | rdBlkData =>
    by_cases h : s.dataPointer < 512
    · exact ⟨_, exec_rdBlkData_inside h, exec_rdBlkData_inside (s := s.withOthers o) h⟩
    · exact ⟨_, exec_rdBlkData_exhausted (Nat.not_lt.mp h),
        exec_rdBlkData_exhausted (s := s.withOthers o) (Nat.not_lt.mp h)⟩
  | wrBlkData wdata =>
    by_cases h : s.dataPointer < 512
    · exact ⟨_, exec_wrBlkData_inside wdata h, exec_wrBlkData_inside (s := s.withOthers o) wdata h⟩
    · exact ⟨_, exec_wrBlkData_exhausted wdata (Nat.not_lt.mp h),
        exec_wrBlkData_exhausted (s := s.withOthers o) wdata (Nat.not_lt.mp h)⟩
  | wrBlkCommandReadSector =>
    cases hb : s.busy with
    | true =>
      exact ⟨_, exec_sectorCommand_busy hb (.inl rfl), exec_sectorCommand_busy (s := s.withOthers o) hb (.inl rfl)⟩
    | false =>
      cases ha : s.attached with
      | false => exact ⟨_, exec_readSector_detached hb ha, exec_readSector_detached (s := s.withOthers o) hb ha⟩
      | true =>
        by_cases hok : s.nextAnswer = true ∧ s.SectorInside
        · exact ⟨_, exec_readSector_ok hb ha hok.1 hok.2,
            exec_readSector_ok (s := s.withOthers o) hb ha hok.1 hok.2⟩
        · have hf : s.nextAnswer = false ∨ ¬ s.SectorInside := by
            simpa only [Decidable.not_and_iff_or_not, Bool.not_eq_true] using hok
          exact ⟨_, exec_readSector_rejected hb ha hf, exec_readSector_rejected (s := s.withOthers o) hb ha hf⟩
  | wrBlkCommandWriteSector =>
    cases hb : s.busy with
    | true =>
      exact ⟨_, exec_sectorCommand_busy hb (.inr rfl), exec_sectorCommand_busy (s := s.withOthers o) hb (.inr rfl)⟩
    | false =>
      cases ha : s.attached with
      | false => exact ⟨_, exec_writeSector_detached hb ha, exec_writeSector_detached (s := s.withOthers o) hb ha⟩
      | true =>
        cases hn : s.nextAnswer with
        | true => exact ⟨_, exec_writeSector_ok hb ha hn, exec_writeSector_ok (s := s.withOthers o) hb ha hn⟩
        | false =>
          exact ⟨_, exec_writeSector_failed hb ha hn, exec_writeSector_failed (s := s.withOthers o) hb ha hn⟩
  | _ => exact ⟨_, rfl, rfl⟩

/-- What a bus access answers and what it makes of its own device depend on that device alone. -/
theorem exec_congr_device {i : Instr} {s s' t t' : State} {d : Device} (hi : i.agent = .busMaster)
    (hd : i.owner = some d) (hs : s.SameDevice d s') (h : exec i s = .next t) (h' : exec i s' = .next t') :
    t'.response = t.response ∧ t.SameDevice d t' := by
  cases d with
  | blockDevice =>
    obtain ⟨u, hu, hu'⟩ := exec_withOthers i hi hd s s'
    rw [← State.eq_withOthers hs, h'] at hu'
    rw [h] at hu
    cases hu
    cases hu'
    exact ⟨rfl, ⟨rfl, rfl, rfl, rfl, rfl, rfl⟩, ⟨rfl, rfl⟩, rfl, rfl⟩
  | console =>
    cases i with
    | rdConsoleOut => cases h; cases h'; exact ⟨rfl, hs⟩
    | wrConsoleOut wdata => cases h; cases h'; exact ⟨rfl, congrArg (· ++ _) hs⟩
    | _ => cases hd
  | keyboard =>
    have hs : s'.q = s.q := hs
    cases i with
    | rdKeyStatus =>
      cases h; cases h'
      refine ⟨?_, hs⟩
      simp [State.keyStatus, State.dataAvailable, hs]
    | rdKeyData =>
      rw [exec_rdKeyData] at h h'
      cases h; cases h'
      exact ⟨by rw [hs], congrArg List.tail hs⟩
    | wrKeyStatus | wrKeyData => cases h; cases h'; exact ⟨rfl, hs⟩
    | inject => cases hi
    | _ => cases hd

/-- Settles O11. -/
theorem busAccessesAreIsolated : Obligations.BusAccessesAreIsolated := by
  refine ⟨fun i s t d hi h hd => ?_, fun i s s' t t' d hi hd hs h h' => exec_congr_device hi hd hs h h'⟩
  have hp : Performs s i t := exec_performs i s t h
  cases d with
  | console => exact hp.sameConsole hi hd
  | keyboard => exact hp.sameKeyboard hi hd
  | blockDevice => exact hp.sameBlockDevice hi hd

end Sys2Proof.Machine
end
